-- ==== Sys2Proof/Word.lean ====
section
/-! DEFINITION. The word types of the OHCI host-controller core (spec 00_scope.md R13: every register is 32 bits wide,
bits are numbered from 0, all values are unsigned). -/

namespace Sys2Proof

/-- A register value, a bus write operand or a guest address (R13, R131). -/
abbrev Word := BitVec 32

/-- One byte of guest memory. -/
abbrev Byte := BitVec 8

/-- The 16-bit transaction key (30_encoding.md R130). -/
abbrev Key := BitVec 16

/-- A byte offset in the register window, as the key carries it (R130). -/
abbrev Offset := BitVec 12

/-- The word index of an offset: its bits [11:2]. -/
abbrev WordIndex := BitVec 10

end Sys2Proof
end

