-- ==== Sys2Proof/Config.lean ====
section
/-! DEFINITION. What an instance of the block fixes: the constants of the spec and the construction parameters
(00_scope.md R8 to R12). No value of this file is read by a rule except through these names. -/

namespace Sys2Proof

/-- R8: the number of root-hub downstream ports. -/
def Config.ndp : Nat := 2

/-- R9: the number of controller instances the platform may hold. -/
abbrev Config.nInstances : Nat := 2

/-- R11, R33: the value HcRevision reads as, in every state. -/
def Config.revision : Word := 0x00000010#32

/-- The parameters of one instance (R10, R11): "The model takes each as an argument". They are data of the state, so
that every statement over all states holds for every value of them. -/
structure Params where
  /-- `IRQ_NUM` (R10): the interrupt line this instance drives. -/
  irqNum : Nat
  /-- `DEVICE_HANDLE` (R10): the device collaborator's handle; the block keeps it and reads it in no rule (R68). -/
  deviceHandle : Nat
  /-- `TICKS_PER_USB_TICK` (R11): host ticks per USB bit time. -/
  ticksPerUsbTick : Nat
  /-- `FRAME_LEN_MIN` (R11): the minimum frame length in bit times. -/
  frameLenMin : Nat
  /-- `PORT_RESET_TICKS` (R11): host ticks from SetPortReset to completion. -/
  portResetTicks : Nat
  /-- `RHDA_INIT` (R11, R46): the fixed value of HcRhDescriptorA. -/
  rhdaInit : Word
  /-- `RHDB_INIT` (R11, R47): the fixed value of HcRhDescriptorB. -/
  rhdbInit : Word
  /-- `WINDOW_BASE` (R11, R101): the bus address of offset 0. DESIGN CHOICE (log 14): the spec gives a bus address no
  width; it is a 32-bit word here. -/
  windowBase : Word
  /-- `WINDOW_SIZE` (R11, R101): the bytes of the window that reach this block. -/
  windowSize : Nat
deriving DecidableEq, Repr

/-- The constraints R11 puts on the parameters. -/
abbrev Params.valid (P : Params) : Prop :=
  1 ≤ P.ticksPerUsbTick
    ∧ (1 ≤ P.frameLenMin ∧ P.frameLenMin ≤ 0x4000)
    ∧ (P.rhdaInit &&& 0x000000FF#32 = 2#32 ∧ P.rhdaInit &&& 0x00FFE400#32 = 0#32)
    ∧ P.rhdbInit &&& 0xFFF9FFF9#32 = 0#32
    ∧ (P.windowSize % 4 = 0 ∧ 0x5C ≤ P.windowSize)

/-- `NPS`, bit 9 of RHDA_INIT (R46): no power switching. -/
def Params.nps (P : Params) : Bool := P.rhdaInit.getLsbD 9

/-- The test instance I0 (R12), with the defaults of R11 where R12 says nothing.
DESIGN CHOICE (log 1): R12 gives no IRQ_NUM, DEVICE_HANDLE or WINDOW_BASE; they are 0 here. -/
def Params.i0 : Params where
  irqNum := 0
  deviceHandle := 0
  ticksPerUsbTick := 1
  frameLenMin := 1
  portResetTicks := 10
  rhdaInit := 0x00000202#32
  rhdbInit := 0x00000000#32
  windowBase := 0x00000000#32
  windowSize := 0x1000

end Sys2Proof
end

