-- ==== Sys2Proof/Syntax.lean ====
section
/-! DEFINITION. The transactions and events that enter the block (30_encoding.md R130 to R134), one constructor of
`Instr` per row of spec/opcode_table.json, and the form in which an agent hands one to the block: a 16-bit key with its
operands. -/

namespace Sys2Proof

/-- `LR`, the list collaborator's answer for one frame (46_frame_timer.md R355). Every value is admitted. -/
structure LR where
  /-- A list could not complete within the frame. -/
  overrun : Bool := false
  /-- An unrecoverable list condition. -/
  error : Bool := false
  /-- The new done-queue head, when transfer descriptors completed. -/
  done : Option Word := none
  /-- The updated HcPeriodCurrentED. -/
  periodCur : Option Word := none
  /-- The updated HcControlCurrentED. -/
  controlCur : Option Word := none
  /-- The updated HcBulkCurrentED. -/
  bulkCur : Option Word := none
  /-- The collaborator found the control list empty. -/
  clearCLF : Bool := false
  /-- The collaborator found the bulk list empty. -/
  clearBLF : Bool := false
deriving DecidableEq, Repr

/-- `LR_NONE` (R355). -/
def LR.nothing : LR := {}

/-- One transaction or event of the block. -/
inductive Instr where
  /-- `RD_HcRevision` (R180): a 32-bit read at offset 0x00. -/
  | rdHcRevision
  /-- `WR_HcRevision` (R181): a 32-bit write of `v` at offset 0x00. -/
  | wrHcRevision (v : Word)
  /-- `RD_HcControl` (R182): a 32-bit read at offset 0x04. -/
  | rdHcControl
  /-- `WR_HcControl` (R183): a 32-bit write of `v` at offset 0x04. -/
  | wrHcControl (v : Word)
  /-- `RD_HcCommandStatus` (R184): a 32-bit read at offset 0x08. -/
  | rdHcCommandStatus
  /-- `WR_HcCommandStatus` (R185): a 32-bit write of `v` at offset 0x08. -/
  | wrHcCommandStatus (v : Word)
  /-- `RD_HcInterruptStatus` (R186): a 32-bit read at offset 0x0C. -/
  | rdHcInterruptStatus
  /-- `WR_HcInterruptStatus` (R187): a 32-bit write of `v` at offset 0x0C. -/
  | wrHcInterruptStatus (v : Word)
  /-- `RD_HcInterruptEnable` (R188): a 32-bit read at offset 0x10. -/
  | rdHcInterruptEnable
  /-- `WR_HcInterruptEnable` (R189): a 32-bit write of `v` at offset 0x10. -/
  | wrHcInterruptEnable (v : Word)
  /-- `RD_HcInterruptDisable` (R190): a 32-bit read at offset 0x14. -/
  | rdHcInterruptDisable
  /-- `WR_HcInterruptDisable` (R191): a 32-bit write of `v` at offset 0x14. -/
  | wrHcInterruptDisable (v : Word)
  /-- `RD_HcHCCA` (R220): a 32-bit read at offset 0x18. -/
  | rdHcHCCA
  /-- `WR_HcHCCA` (R221): a 32-bit write of `v` at offset 0x18. -/
  | wrHcHCCA (v : Word)
  /-- `RD_HcPeriodCurrentED` (R222): a 32-bit read at offset 0x1C. -/
  | rdHcPeriodCurrentED
  /-- `WR_HcPeriodCurrentED` (R223): a 32-bit write of `v` at offset 0x1C. -/
  | wrHcPeriodCurrentED (v : Word)
  /-- `RD_HcControlHeadED` (R224): a 32-bit read at offset 0x20. -/
  | rdHcControlHeadED
  /-- `WR_HcControlHeadED` (R225): a 32-bit write of `v` at offset 0x20. -/
  | wrHcControlHeadED (v : Word)
  /-- `RD_HcControlCurrentED` (R226): a 32-bit read at offset 0x24. -/
  | rdHcControlCurrentED
  /-- `WR_HcControlCurrentED` (R227): a 32-bit write of `v` at offset 0x24. -/
  | wrHcControlCurrentED (v : Word)
  /-- `RD_HcBulkHeadED` (R228): a 32-bit read at offset 0x28. -/
  | rdHcBulkHeadED
  /-- `WR_HcBulkHeadED` (R229): a 32-bit write of `v` at offset 0x28. -/
  | wrHcBulkHeadED (v : Word)
  /-- `RD_HcBulkCurrentED` (R230): a 32-bit read at offset 0x2C. -/
  | rdHcBulkCurrentED
  /-- `WR_HcBulkCurrentED` (R231): a 32-bit write of `v` at offset 0x2C. -/
  | wrHcBulkCurrentED (v : Word)
  /-- `RD_HcDoneHead` (R232): a 32-bit read at offset 0x30. -/
  | rdHcDoneHead
  /-- `WR_HcDoneHead` (R233): a 32-bit write of `v` at offset 0x30. -/
  | wrHcDoneHead (v : Word)
  /-- `RD_HcFmInterval` (R240): a 32-bit read at offset 0x34. -/
  | rdHcFmInterval
  /-- `WR_HcFmInterval` (R241): a 32-bit write of `v` at offset 0x34. -/
  | wrHcFmInterval (v : Word)
  /-- `RD_HcFmRemaining` (R242): a 32-bit read at offset 0x38. -/
  | rdHcFmRemaining
  /-- `WR_HcFmRemaining` (R243): a 32-bit write of `v` at offset 0x38. -/
  | wrHcFmRemaining (v : Word)
  /-- `RD_HcFmNumber` (R244): a 32-bit read at offset 0x3C. -/
  | rdHcFmNumber
  /-- `WR_HcFmNumber` (R245): a 32-bit write of `v` at offset 0x3C. -/
  | wrHcFmNumber (v : Word)
  /-- `RD_HcPeriodicStart` (R246): a 32-bit read at offset 0x40. -/
  | rdHcPeriodicStart
  /-- `WR_HcPeriodicStart` (R247): a 32-bit write of `v` at offset 0x40. -/
  | wrHcPeriodicStart (v : Word)
  /-- `RD_HcLSThreshold` (R248): a 32-bit read at offset 0x44. -/
  | rdHcLSThreshold
  /-- `WR_HcLSThreshold` (R249): a 32-bit write of `v` at offset 0x44. -/
  | wrHcLSThreshold (v : Word)
  /-- `RD_HcRhDescriptorA` (R270): a 32-bit read at offset 0x48. -/
  | rdHcRhDescriptorA
  /-- `WR_HcRhDescriptorA` (R271): a 32-bit write of `v` at offset 0x48. -/
  | wrHcRhDescriptorA (v : Word)
  /-- `RD_HcRhDescriptorB` (R272): a 32-bit read at offset 0x4C. -/
  | rdHcRhDescriptorB
  /-- `WR_HcRhDescriptorB` (R273): a 32-bit write of `v` at offset 0x4C. -/
  | wrHcRhDescriptorB (v : Word)
  /-- `RD_HcRhStatus` (R274): a 32-bit read at offset 0x50. -/
  | rdHcRhStatus
  /-- `WR_HcRhStatus` (R275): a 32-bit write of `v` at offset 0x50. -/
  | wrHcRhStatus (v : Word)
  /-- `RD_HcRhPortStatus1` (R276): a 32-bit read at offset 0x54. -/
  | rdHcRhPortStatus1
  /-- `WR_HcRhPortStatus1` (R277): a 32-bit write of `v` at offset 0x54. -/
  | wrHcRhPortStatus1 (v : Word)
  /-- `RD_HcRhPortStatus2` (R278): a 32-bit read at offset 0x58. -/
  | rdHcRhPortStatus2
  /-- `WR_HcRhPortStatus2` (R279): a 32-bit write of `v` at offset 0x58. -/
  | wrHcRhPortStatus2 (v : Word)
  /-- `RD_MISALIGNED` (R164), the row with OFFSET[1:0] = 1: a read at offset 4 * `w` + 1. -/
  | rdMisaligned1 (w : WordIndex)
  /-- `RD_MISALIGNED` (R164), the row with OFFSET[1:0] = 2: a read at offset 4 * `w` + 2. -/
  | rdMisaligned2 (w : WordIndex)
  /-- `RD_MISALIGNED` (R164), the row with OFFSET[1:0] = 3: a read at offset 4 * `w` + 3. -/
  | rdMisaligned3 (w : WordIndex)
  /-- `WR_MISALIGNED` (R164), the row with OFFSET[1:0] = 1: a write at offset 4 * `w` + 1. -/
  | wrMisaligned1 (w : WordIndex) (v : Word)
  /-- `WR_MISALIGNED` (R164), the row with OFFSET[1:0] = 2: a write at offset 4 * `w` + 2. -/
  | wrMisaligned2 (w : WordIndex) (v : Word)
  /-- `WR_MISALIGNED` (R164), the row with OFFSET[1:0] = 3: a write at offset 4 * `w` + 3. -/
  | wrMisaligned3 (w : WordIndex) (v : Word)
  /-- `RD_UNMAPPED` (R162): an aligned read at offset 4 * `w`, which names no register. -/
  | rdUnmapped (w : WordIndex)
  /-- `WR_UNMAPPED` (R163): an aligned write at offset 4 * `w`, which names no register. -/
  | wrUnmapped (w : WordIndex) (v : Word)
  /-- `RD8` (R104): a 8-bit read, refused. -/
  | rd8 (o : Offset)
  /-- `RD16` (R104): a 16-bit read, refused. -/
  | rd16 (o : Offset)
  /-- `RD64` (R104): a 64-bit read, refused. -/
  | rd64 (o : Offset)
  /-- `WR8` (R104): a 8-bit write, refused. -/
  | wr8 (o : Offset)
  /-- `WR16` (R104): a 16-bit write, refused. -/
  | wr16 (o : Offset)
  /-- `WR64` (R104): a 64-bit write, refused. -/
  | wr64 (o : Offset)
  /-- `RESERVED_CLASS` (R132): CLASS = 0b11, refused; `code` is bits [13:0] of the key. -/
  | reservedClass (code : BitVec 14)
  /-- `FIRE` (R351): EV_TIMER_FIRE with the list collaborator's answer. -/
  | fire (lr : LR)
  /-- `ATTACH` (R380): EV_ATTACH; a port number outside 1 and 2 is refused (R133). -/
  | attach (p : Nat) (lowSpeed : Bool)
  /-- `DETACH` (R381): EV_DETACH. -/
  | detach (p : Nat)
  /-- `PRDONE` (R382): EV_PORT_RESET_DONE. -/
  | prdone (p : Nat)
  /-- `ADV` (R383): EV_TIME_ADVANCE by `d` ticks, `d` at least 1 (R133). -/
  | adv (d : Nat)
  /-- `CONSTRUCT` (R440): EV_CONSTRUCT. -/
  | construct
  /-- `RESERVED_EVENT` (R132): event class with an unknown code or SIZE other than 0b00, refused; `code` is bits [13:0]. -/
  | reservedEvent (code : BitVec 14)
deriving DecidableEq, Repr

/-- The operands that come with a key (R131, R133). The key says which of them the transaction has; the others are not
read. DESIGN CHOICE (log 6): the spec gives operands no bits, so they stand as typed data, and an operand that is left
out takes its least admitted value. -/
structure TxOperands where
  /-- The write operand `v` (R131). -/
  v : Word := 0#32
  /-- The answer `lr` of FIRE; left out it is LR_NONE (R137). -/
  lr : LR := {}
  /-- The port number `p` of ATTACH, DETACH and PRDONE. -/
  p : Nat := 1
  /-- `lowSpeed` of ATTACH. -/
  lowSpeed : Bool := false
  /-- The ticks `d` of ADV. -/
  d : Nat := 1
deriving DecidableEq, Repr

/-- One transaction as it enters the block: "a 16-bit key with its operands" (R130). -/
structure Transaction where
  /-- The 16-bit key. -/
  key : Key
  /-- Its operands. -/
  operands : TxOperands := {}
deriving DecidableEq, Repr

end Sys2Proof
end

