-- ==== Sys2Proof/WellFormed.lean ====
section
/-! DEFINITION. Which instruction terms are transactions of the spec: an unmapped access is at an offset that names no
register, a reserved event has no code of R133, and each operand is in the range R133 gives it. -/

namespace Sys2Proof

/-- The number of registers at offsets 0x00 to 0x58 (10_state.md R31). -/
def registerCount : Nat := 23

/-- Is there a key for the term's row? An unmapped offset names no register (R162, R163) and a reserved event code is
none of the six of R133. -/
def Instr.encodable : Instr → Bool
  | .rdUnmapped w => decide (registerCount ≤ w.toNat)
  | .wrUnmapped w _ => decide (registerCount ≤ w.toNat)
  | .reservedEvent code => decide (6 ≤ code.toNat)
  | _ => true

/-- Are the operands those that R133 admits? A term with a port outside 1 and 2, or an ADV of no tick, can be written
and encoded; it is refused when it is run. -/
def Instr.operandsAdmitted : Instr → Bool
  | .attach p _ => decide (p = 1 ∨ p = 2)
  | .detach p => decide (p = 1 ∨ p = 2)
  | .prdone p => decide (p = 1 ∨ p = 2)
  | .adv d => decide (1 ≤ d)
  | _ => true

/-- A transaction of the spec. -/
def Instr.wellFormed (i : Instr) : Bool := i.encodable && i.operandsAdmitted

end Sys2Proof
end

