-- ==== Sys2Proof/Decode.lean ====
section
/-! DEFINITION. The decoder of a transaction (30_encoding.md R130 to R134), written in the decode order of R132, the
encoder, and the opcode table as rows of match, mask and priority (R134). The decoder is total: every 16-bit key is a
constructor of `Instr`, the refused spaces among them, so nothing is left over to reject. -/

namespace Sys2Proof

/-- CLASS, bits [15:14] of a key (R130). -/
def keyClass (k : Key) : BitVec 2 := k.extractLsb' 14 2

/-- SIZE, bits [13:12] of a key (R130). -/
def keySize (k : Key) : BitVec 2 := k.extractLsb' 12 2

/-- OFFSET or EVCODE, bits [11:0] of a key (R130). -/
def keyOffset (k : Key) : Offset := k.extractLsb' 0 12

/-- Bits [13:0] of a key: SIZE and EVCODE of an event (R130). -/
def keyCode (k : Key) : BitVec 14 := k.extractLsb' 0 14

/-- Bits [1:0] of an offset: 0 for an aligned access (R132). -/
def offsetLow (o : Offset) : BitVec 2 := o.extractLsb' 0 2

/-- Bits [11:2] of an offset: which aligned word of the window it lies in. -/
def offsetWord (o : Offset) : WordIndex := o.extractLsb' 2 10

/-- The register reads in the order of their offsets, 0x00 to 0x58 (10_state.md R31). -/
def registerReads : List Instr :=
  [.rdHcRevision, .rdHcControl, .rdHcCommandStatus, .rdHcInterruptStatus,
   .rdHcInterruptEnable, .rdHcInterruptDisable, .rdHcHCCA, .rdHcPeriodCurrentED,
   .rdHcControlHeadED, .rdHcControlCurrentED, .rdHcBulkHeadED, .rdHcBulkCurrentED,
   .rdHcDoneHead, .rdHcFmInterval, .rdHcFmRemaining, .rdHcFmNumber,
   .rdHcPeriodicStart, .rdHcLSThreshold, .rdHcRhDescriptorA, .rdHcRhDescriptorB,
   .rdHcRhStatus, .rdHcRhPortStatus1, .rdHcRhPortStatus2]

/-- The register writes in the order of their offsets, 0x00 to 0x58 (10_state.md R31). -/
def registerWrites : List (Word → Instr) :=
  [.wrHcRevision, .wrHcControl, .wrHcCommandStatus, .wrHcInterruptStatus,
   .wrHcInterruptEnable, .wrHcInterruptDisable, .wrHcHCCA, .wrHcPeriodCurrentED,
   .wrHcControlHeadED, .wrHcControlCurrentED, .wrHcBulkHeadED, .wrHcBulkCurrentED,
   .wrHcDoneHead, .wrHcFmInterval, .wrHcFmRemaining, .wrHcFmNumber,
   .wrHcPeriodicStart, .wrHcLSThreshold, .wrHcRhDescriptorA, .wrHcRhDescriptorB,
   .wrHcRhStatus, .wrHcRhPortStatus1, .wrHcRhPortStatus2]

/-- R132 points 2 to 4 for CLASS = 0b00. -/
def decodeRead (size : BitVec 2) (o : Offset) : Instr :=
  if size = 0#2 then .rd8 o
  else if size = 1#2 then .rd16 o
  else if size = 3#2 then .rd64 o
  else if offsetLow o = 1#2 then .rdMisaligned1 (offsetWord o)
  else if offsetLow o = 2#2 then .rdMisaligned2 (offsetWord o)
  else if offsetLow o = 3#2 then .rdMisaligned3 (offsetWord o)
  else
    match registerReads[(offsetWord o).toNat]? with
    | some i => i
    | none => .rdUnmapped (offsetWord o)

/-- R132 points 2 to 4 for CLASS = 0b01. -/
def decodeWrite (size : BitVec 2) (o : Offset) (v : Word) : Instr :=
  if size = 0#2 then .wr8 o
  else if size = 1#2 then .wr16 o
  else if size = 3#2 then .wr64 o
  else if offsetLow o = 1#2 then .wrMisaligned1 (offsetWord o) v
  else if offsetLow o = 2#2 then .wrMisaligned2 (offsetWord o) v
  else if offsetLow o = 3#2 then .wrMisaligned3 (offsetWord o) v
  else
    match registerWrites[(offsetWord o).toNat]? with
    | some i => i v
    | none => .wrUnmapped (offsetWord o) v

/-- R132 point 5 and R133: an event has SIZE = 0b00, so its 14-bit code is its EVCODE. -/
def decodeEvent (code : BitVec 14) (ops : TxOperands) : Instr :=
  if code = 0#14 then .fire ops.lr
  else if code = 1#14 then .attach ops.p ops.lowSpeed
  else if code = 2#14 then .detach ops.p
  else if code = 3#14 then .prdone ops.p
  else if code = 4#14 then .adv ops.d
  else if code = 5#14 then .construct
  else .reservedEvent code

/-- The decoder, in the order of R132. -/
def decode (t : Transaction) : Instr :=
  if keyClass t.key = 3#2 then .reservedClass (keyCode t.key)
  else if keyClass t.key = 2#2 then decodeEvent (keyCode t.key) t.operands
  else if keyClass t.key = 0#2 then decodeRead (keySize t.key) (keyOffset t.key)
  else decodeWrite (keySize t.key) (keyOffset t.key) t.operands.v

/-- The key of a bus access: class, size and offset (R130). -/
def busKey (cls size : BitVec 2) (o : Offset) : Key := cls ++ size ++ o

/-- The key of a 32-bit read at an offset (R134: 0x2000 with the offset). -/
def rdKey (o : Offset) : Key := busKey 0#2 2#2 o

/-- The key of a 32-bit write at an offset (R134: 0x6000 with the offset). -/
def wrKey (o : Offset) : Key := busKey 1#2 2#2 o

/-- The key of an event code (R133). -/
def eventKey (code : BitVec 12) : Key := busKey 2#2 0#2 code

/-- The transaction that stands for an instruction: its key (R130, R133, R134) with the operands it has. -/
def encode : Instr → Transaction
  | .rdHcRevision => { key := rdKey 0x000#12 }
  | .wrHcRevision v => { key := wrKey 0x000#12, operands := { v := v } }
  | .rdHcControl => { key := rdKey 0x004#12 }
  | .wrHcControl v => { key := wrKey 0x004#12, operands := { v := v } }
  | .rdHcCommandStatus => { key := rdKey 0x008#12 }
  | .wrHcCommandStatus v => { key := wrKey 0x008#12, operands := { v := v } }
  | .rdHcInterruptStatus => { key := rdKey 0x00C#12 }
  | .wrHcInterruptStatus v => { key := wrKey 0x00C#12, operands := { v := v } }
  | .rdHcInterruptEnable => { key := rdKey 0x010#12 }
  | .wrHcInterruptEnable v => { key := wrKey 0x010#12, operands := { v := v } }
  | .rdHcInterruptDisable => { key := rdKey 0x014#12 }
  | .wrHcInterruptDisable v => { key := wrKey 0x014#12, operands := { v := v } }
  | .rdHcHCCA => { key := rdKey 0x018#12 }
  | .wrHcHCCA v => { key := wrKey 0x018#12, operands := { v := v } }
  | .rdHcPeriodCurrentED => { key := rdKey 0x01C#12 }
  | .wrHcPeriodCurrentED v => { key := wrKey 0x01C#12, operands := { v := v } }
  | .rdHcControlHeadED => { key := rdKey 0x020#12 }
  | .wrHcControlHeadED v => { key := wrKey 0x020#12, operands := { v := v } }
  | .rdHcControlCurrentED => { key := rdKey 0x024#12 }
  | .wrHcControlCurrentED v => { key := wrKey 0x024#12, operands := { v := v } }
  | .rdHcBulkHeadED => { key := rdKey 0x028#12 }
  | .wrHcBulkHeadED v => { key := wrKey 0x028#12, operands := { v := v } }
  | .rdHcBulkCurrentED => { key := rdKey 0x02C#12 }
  | .wrHcBulkCurrentED v => { key := wrKey 0x02C#12, operands := { v := v } }
  | .rdHcDoneHead => { key := rdKey 0x030#12 }
  | .wrHcDoneHead v => { key := wrKey 0x030#12, operands := { v := v } }
  | .rdHcFmInterval => { key := rdKey 0x034#12 }
  | .wrHcFmInterval v => { key := wrKey 0x034#12, operands := { v := v } }
  | .rdHcFmRemaining => { key := rdKey 0x038#12 }
  | .wrHcFmRemaining v => { key := wrKey 0x038#12, operands := { v := v } }
  | .rdHcFmNumber => { key := rdKey 0x03C#12 }
  | .wrHcFmNumber v => { key := wrKey 0x03C#12, operands := { v := v } }
  | .rdHcPeriodicStart => { key := rdKey 0x040#12 }
  | .wrHcPeriodicStart v => { key := wrKey 0x040#12, operands := { v := v } }
  | .rdHcLSThreshold => { key := rdKey 0x044#12 }
  | .wrHcLSThreshold v => { key := wrKey 0x044#12, operands := { v := v } }
  | .rdHcRhDescriptorA => { key := rdKey 0x048#12 }
  | .wrHcRhDescriptorA v => { key := wrKey 0x048#12, operands := { v := v } }
  | .rdHcRhDescriptorB => { key := rdKey 0x04C#12 }
  | .wrHcRhDescriptorB v => { key := wrKey 0x04C#12, operands := { v := v } }
  | .rdHcRhStatus => { key := rdKey 0x050#12 }
  | .wrHcRhStatus v => { key := wrKey 0x050#12, operands := { v := v } }
  | .rdHcRhPortStatus1 => { key := rdKey 0x054#12 }
  | .wrHcRhPortStatus1 v => { key := wrKey 0x054#12, operands := { v := v } }
  | .rdHcRhPortStatus2 => { key := rdKey 0x058#12 }
  | .wrHcRhPortStatus2 v => { key := wrKey 0x058#12, operands := { v := v } }
  | .rdMisaligned1 w => { key := rdKey (w ++ 1#2) }
  | .rdMisaligned2 w => { key := rdKey (w ++ 2#2) }
  | .rdMisaligned3 w => { key := rdKey (w ++ 3#2) }
  | .wrMisaligned1 w v => { key := wrKey (w ++ 1#2), operands := { v := v } }
  | .wrMisaligned2 w v => { key := wrKey (w ++ 2#2), operands := { v := v } }
  | .wrMisaligned3 w v => { key := wrKey (w ++ 3#2), operands := { v := v } }
  | .rdUnmapped w => { key := rdKey (w ++ 0#2) }
  | .wrUnmapped w v => { key := wrKey (w ++ 0#2), operands := { v := v } }
  | .rd8 o => { key := busKey 0#2 0#2 o }
  | .rd16 o => { key := busKey 0#2 1#2 o }
  | .rd64 o => { key := busKey 0#2 3#2 o }
  | .wr8 o => { key := busKey 1#2 0#2 o }
  | .wr16 o => { key := busKey 1#2 1#2 o }
  | .wr64 o => { key := busKey 1#2 3#2 o }
  | .reservedClass code => { key := 3#2 ++ code }
  | .fire lr => { key := eventKey 0x000#12, operands := { lr := lr } }
  | .attach p lowSpeed => { key := eventKey 0x001#12, operands := { p := p, lowSpeed := lowSpeed } }
  | .detach p => { key := eventKey 0x002#12, operands := { p := p } }
  | .prdone p => { key := eventKey 0x003#12, operands := { p := p } }
  | .adv d => { key := eventKey 0x004#12, operands := { d := d } }
  | .construct => { key := eventKey 0x005#12 }
  | .reservedEvent code => { key := 2#2 ++ code }

/-- The mnemonic of an instruction's row in spec/opcode_table.json. -/
def Instr.mnemonic : Instr → String
  | .rdHcRevision => "RD_HcRevision"
  | .wrHcRevision _ => "WR_HcRevision"
  | .rdHcControl => "RD_HcControl"
  | .wrHcControl _ => "WR_HcControl"
  | .rdHcCommandStatus => "RD_HcCommandStatus"
  | .wrHcCommandStatus _ => "WR_HcCommandStatus"
  | .rdHcInterruptStatus => "RD_HcInterruptStatus"
  | .wrHcInterruptStatus _ => "WR_HcInterruptStatus"
  | .rdHcInterruptEnable => "RD_HcInterruptEnable"
  | .wrHcInterruptEnable _ => "WR_HcInterruptEnable"
  | .rdHcInterruptDisable => "RD_HcInterruptDisable"
  | .wrHcInterruptDisable _ => "WR_HcInterruptDisable"
  | .rdHcHCCA => "RD_HcHCCA"
  | .wrHcHCCA _ => "WR_HcHCCA"
  | .rdHcPeriodCurrentED => "RD_HcPeriodCurrentED"
  | .wrHcPeriodCurrentED _ => "WR_HcPeriodCurrentED"
  | .rdHcControlHeadED => "RD_HcControlHeadED"
  | .wrHcControlHeadED _ => "WR_HcControlHeadED"
  | .rdHcControlCurrentED => "RD_HcControlCurrentED"
  | .wrHcControlCurrentED _ => "WR_HcControlCurrentED"
  | .rdHcBulkHeadED => "RD_HcBulkHeadED"
  | .wrHcBulkHeadED _ => "WR_HcBulkHeadED"
  | .rdHcBulkCurrentED => "RD_HcBulkCurrentED"
  | .wrHcBulkCurrentED _ => "WR_HcBulkCurrentED"
  | .rdHcDoneHead => "RD_HcDoneHead"
  | .wrHcDoneHead _ => "WR_HcDoneHead"
  | .rdHcFmInterval => "RD_HcFmInterval"
  | .wrHcFmInterval _ => "WR_HcFmInterval"
  | .rdHcFmRemaining => "RD_HcFmRemaining"
  | .wrHcFmRemaining _ => "WR_HcFmRemaining"
  | .rdHcFmNumber => "RD_HcFmNumber"
  | .wrHcFmNumber _ => "WR_HcFmNumber"
  | .rdHcPeriodicStart => "RD_HcPeriodicStart"
  | .wrHcPeriodicStart _ => "WR_HcPeriodicStart"
  | .rdHcLSThreshold => "RD_HcLSThreshold"
  | .wrHcLSThreshold _ => "WR_HcLSThreshold"
  | .rdHcRhDescriptorA => "RD_HcRhDescriptorA"
  | .wrHcRhDescriptorA _ => "WR_HcRhDescriptorA"
  | .rdHcRhDescriptorB => "RD_HcRhDescriptorB"
  | .wrHcRhDescriptorB _ => "WR_HcRhDescriptorB"
  | .rdHcRhStatus => "RD_HcRhStatus"
  | .wrHcRhStatus _ => "WR_HcRhStatus"
  | .rdHcRhPortStatus1 => "RD_HcRhPortStatus1"
  | .wrHcRhPortStatus1 _ => "WR_HcRhPortStatus1"
  | .rdHcRhPortStatus2 => "RD_HcRhPortStatus2"
  | .wrHcRhPortStatus2 _ => "WR_HcRhPortStatus2"
  | .rdMisaligned1 _ => "RD_MISALIGNED"
  | .rdMisaligned2 _ => "RD_MISALIGNED"
  | .rdMisaligned3 _ => "RD_MISALIGNED"
  | .wrMisaligned1 _ _ => "WR_MISALIGNED"
  | .wrMisaligned2 _ _ => "WR_MISALIGNED"
  | .wrMisaligned3 _ _ => "WR_MISALIGNED"
  | .rdUnmapped _ => "RD_UNMAPPED"
  | .wrUnmapped _ _ => "WR_UNMAPPED"
  | .rd8 _ => "RD8"
  | .rd16 _ => "RD16"
  | .rd64 _ => "RD64"
  | .wr8 _ => "WR8"
  | .wr16 _ => "WR16"
  | .wr64 _ => "WR64"
  | .reservedClass _ => "RESERVED_CLASS"
  | .fire _ => "FIRE"
  | .attach _ _ => "ATTACH"
  | .detach _ => "DETACH"
  | .prdone _ => "PRDONE"
  | .adv _ => "ADV"
  | .construct => "CONSTRUCT"
  | .reservedEvent _ => "RESERVED_EVENT"

/-- One row of the opcode table (R134). -/
structure OpRow where
  /-- The row's name. -/
  mnemonic : String
  /-- The value the masked key must have. -/
  pattern : Key
  /-- The bits of the key the row fixes. -/
  mask : Key
  /-- 0 for a defined row, 1 for misaligned rows, 2 for unmapped rows and RESERVED_EVENT. -/
  priority : Nat
deriving DecidableEq, Repr

/-- Does the key match the row? -/
def OpRow.hits (r : OpRow) (k : Key) : Bool := k &&& r.mask == r.pattern

/-- The rows of the register reads (R134). -/
def readRows : List OpRow :=
  [⟨"RD_HcRevision", 0x2000#16, 0xFFFF#16, 0⟩,
   ⟨"RD_HcControl", 0x2004#16, 0xFFFF#16, 0⟩,
   ⟨"RD_HcCommandStatus", 0x2008#16, 0xFFFF#16, 0⟩,
   ⟨"RD_HcInterruptStatus", 0x200C#16, 0xFFFF#16, 0⟩,
   ⟨"RD_HcInterruptEnable", 0x2010#16, 0xFFFF#16, 0⟩,
   ⟨"RD_HcInterruptDisable", 0x2014#16, 0xFFFF#16, 0⟩,
   ⟨"RD_HcHCCA", 0x2018#16, 0xFFFF#16, 0⟩,
   ⟨"RD_HcPeriodCurrentED", 0x201C#16, 0xFFFF#16, 0⟩,
   ⟨"RD_HcControlHeadED", 0x2020#16, 0xFFFF#16, 0⟩,
   ⟨"RD_HcControlCurrentED", 0x2024#16, 0xFFFF#16, 0⟩,
   ⟨"RD_HcBulkHeadED", 0x2028#16, 0xFFFF#16, 0⟩,
   ⟨"RD_HcBulkCurrentED", 0x202C#16, 0xFFFF#16, 0⟩,
   ⟨"RD_HcDoneHead", 0x2030#16, 0xFFFF#16, 0⟩,
   ⟨"RD_HcFmInterval", 0x2034#16, 0xFFFF#16, 0⟩,
   ⟨"RD_HcFmRemaining", 0x2038#16, 0xFFFF#16, 0⟩,
   ⟨"RD_HcFmNumber", 0x203C#16, 0xFFFF#16, 0⟩,
   ⟨"RD_HcPeriodicStart", 0x2040#16, 0xFFFF#16, 0⟩,
   ⟨"RD_HcLSThreshold", 0x2044#16, 0xFFFF#16, 0⟩,
   ⟨"RD_HcRhDescriptorA", 0x2048#16, 0xFFFF#16, 0⟩,
   ⟨"RD_HcRhDescriptorB", 0x204C#16, 0xFFFF#16, 0⟩,
   ⟨"RD_HcRhStatus", 0x2050#16, 0xFFFF#16, 0⟩,
   ⟨"RD_HcRhPortStatus1", 0x2054#16, 0xFFFF#16, 0⟩,
   ⟨"RD_HcRhPortStatus2", 0x2058#16, 0xFFFF#16, 0⟩]

/-- The rows of the register writes (R134). -/
def writeRows : List OpRow :=
  [⟨"WR_HcRevision", 0x6000#16, 0xFFFF#16, 0⟩,
   ⟨"WR_HcControl", 0x6004#16, 0xFFFF#16, 0⟩,
   ⟨"WR_HcCommandStatus", 0x6008#16, 0xFFFF#16, 0⟩,
   ⟨"WR_HcInterruptStatus", 0x600C#16, 0xFFFF#16, 0⟩,
   ⟨"WR_HcInterruptEnable", 0x6010#16, 0xFFFF#16, 0⟩,
   ⟨"WR_HcInterruptDisable", 0x6014#16, 0xFFFF#16, 0⟩,
   ⟨"WR_HcHCCA", 0x6018#16, 0xFFFF#16, 0⟩,
   ⟨"WR_HcPeriodCurrentED", 0x601C#16, 0xFFFF#16, 0⟩,
   ⟨"WR_HcControlHeadED", 0x6020#16, 0xFFFF#16, 0⟩,
   ⟨"WR_HcControlCurrentED", 0x6024#16, 0xFFFF#16, 0⟩,
   ⟨"WR_HcBulkHeadED", 0x6028#16, 0xFFFF#16, 0⟩,
   ⟨"WR_HcBulkCurrentED", 0x602C#16, 0xFFFF#16, 0⟩,
   ⟨"WR_HcDoneHead", 0x6030#16, 0xFFFF#16, 0⟩,
   ⟨"WR_HcFmInterval", 0x6034#16, 0xFFFF#16, 0⟩,
   ⟨"WR_HcFmRemaining", 0x6038#16, 0xFFFF#16, 0⟩,
   ⟨"WR_HcFmNumber", 0x603C#16, 0xFFFF#16, 0⟩,
   ⟨"WR_HcPeriodicStart", 0x6040#16, 0xFFFF#16, 0⟩,
   ⟨"WR_HcLSThreshold", 0x6044#16, 0xFFFF#16, 0⟩,
   ⟨"WR_HcRhDescriptorA", 0x6048#16, 0xFFFF#16, 0⟩,
   ⟨"WR_HcRhDescriptorB", 0x604C#16, 0xFFFF#16, 0⟩,
   ⟨"WR_HcRhStatus", 0x6050#16, 0xFFFF#16, 0⟩,
   ⟨"WR_HcRhPortStatus1", 0x6054#16, 0xFFFF#16, 0⟩,
   ⟨"WR_HcRhPortStatus2", 0x6058#16, 0xFFFF#16, 0⟩]

/-- The rows of the misaligned and unmapped accesses (R134). -/
def toleratedRows : List OpRow :=
  [⟨"RD_MISALIGNED", 0x2001#16, 0xF003#16, 1⟩,
   ⟨"RD_MISALIGNED", 0x2002#16, 0xF003#16, 1⟩,
   ⟨"RD_MISALIGNED", 0x2003#16, 0xF003#16, 1⟩,
   ⟨"WR_MISALIGNED", 0x6001#16, 0xF003#16, 1⟩,
   ⟨"WR_MISALIGNED", 0x6002#16, 0xF003#16, 1⟩,
   ⟨"WR_MISALIGNED", 0x6003#16, 0xF003#16, 1⟩,
   ⟨"RD_UNMAPPED", 0x2000#16, 0xF003#16, 2⟩,
   ⟨"WR_UNMAPPED", 0x6000#16, 0xF003#16, 2⟩]

/-- The rows of the refused widths and the reserved class (R132, R134). -/
def widthRows : List OpRow :=
  [⟨"RD8", 0x0000#16, 0xF000#16, 0⟩,
   ⟨"RD16", 0x1000#16, 0xF000#16, 0⟩,
   ⟨"RD64", 0x3000#16, 0xF000#16, 0⟩,
   ⟨"WR8", 0x4000#16, 0xF000#16, 0⟩,
   ⟨"WR16", 0x5000#16, 0xF000#16, 0⟩,
   ⟨"WR64", 0x7000#16, 0xF000#16, 0⟩,
   ⟨"RESERVED_CLASS", 0xC000#16, 0xC000#16, 0⟩]

/-- The rows of the events (R133, R134). -/
def eventRows : List OpRow :=
  [⟨"FIRE", 0x8000#16, 0xFFFF#16, 0⟩,
   ⟨"ATTACH", 0x8001#16, 0xFFFF#16, 0⟩,
   ⟨"DETACH", 0x8002#16, 0xFFFF#16, 0⟩,
   ⟨"PRDONE", 0x8003#16, 0xFFFF#16, 0⟩,
   ⟨"ADV", 0x8004#16, 0xFFFF#16, 0⟩,
   ⟨"CONSTRUCT", 0x8005#16, 0xFFFF#16, 0⟩,
   ⟨"RESERVED_EVENT", 0x8000#16, 0xC000#16, 2⟩]

/-- All 68 rows of spec/opcode_table.json. -/
def opcodeTable : List OpRow := readRows ++ writeRows ++ toleratedRows ++ widthRows ++ eventRows

/-- The first row of the list that the key matches. -/
def firstHit (rows : List OpRow) (k : Key) : Option OpRow := rows.find? (fun r => r.hits k)

/-- "A decoder takes the matching row of lowest priority" (R134). -/
def tableRow (k : Key) : Option OpRow :=
  (firstHit (opcodeTable.filter (·.priority == 0)) k).or
    ((firstHit (opcodeTable.filter (·.priority == 1)) k).or
      (firstHit (opcodeTable.filter (·.priority == 2)) k))

/-- The transaction whose key is the bits `w` of a table row, with every operand left out (log 6). -/
def tableTransaction (w : Nat) : Transaction := { key := BitVec.ofNat 16 w }

/-- The instruction the decoder reads from a table word. Every row of the table is one 16-bit key; a number that is no
16-bit key, or has bits above `nbits`, is no table word. -/
def decodeTableWord (nbits w : Nat) : Option Instr :=
  if w < 2 ^ 16 ∧ w < 2 ^ nbits then some (decode (tableTransaction w)) else none

/-- The twelve pseudo-instructions of R138; each expands to one write. -/
inductive Pseudo where
  | goOperational (c : Word)
  | goSuspend (c : Word)
  | goResume (c : Word)
  | goReset
  | hcReset
  | intEn (m : Word)
  | intDis (m : Word)
  | mieOn
  | mieOff
  | ack (m : Word)
  | portReset1
  | portReset2
  | portAck1 (m : Word)
  | portAck2 (m : Word)
deriving DecidableEq, Repr

/-- The expansion of a pseudo-instruction (R138); PORTRESET and PORTACK are written once per port. -/
def Pseudo.expand : Pseudo → Instr
  | .goOperational c => .wrHcControl ((c &&& ~~~0xC0#32) ||| 0x80#32)
  | .goSuspend c => .wrHcControl ((c &&& ~~~0xC0#32) ||| 0xC0#32)
  | .goResume c => .wrHcControl ((c &&& ~~~0xC0#32) ||| 0x40#32)
  | .goReset => .wrHcControl 0x00#32
  | .hcReset => .wrHcCommandStatus 0x1#32
  | .intEn m => .wrHcInterruptEnable m
  | .intDis m => .wrHcInterruptDisable m
  | .mieOn => .wrHcInterruptEnable 0x80000000#32
  | .mieOff => .wrHcInterruptDisable 0x80000000#32
  | .ack m => .wrHcInterruptStatus m
  | .portReset1 => .wrHcRhPortStatus1 0x10#32
  | .portReset2 => .wrHcRhPortStatus2 0x10#32
  | .portAck1 m => .wrHcRhPortStatus1 (m &&& 0x001F0000#32)
  | .portAck2 m => .wrHcRhPortStatus2 (m &&& 0x001F0000#32)

end Sys2Proof
end

