-- ==== Sys2Proof/Machine/Memory.lean ====
section
/-! DEFINITION. The bytes the block has written to guest memory (20_memory.md R106, R107), as a canonical list: addresses
strictly rising, and no entry for an address nothing has written. -/

namespace Sys2Proof.Machine

/-- Guest memory as far as the block has written it. -/
abbrev Memory := List Host.Cell

/-- What an address that the list does not hold reads as: no value. The block reads no guest memory (R100), and what
memory held before is not its state. DESIGN CHOICE (log 4), safe. -/
def Memory.unlisted : Option Byte := none

/-- The byte at an address. -/
def Memory.get : Memory → Nat → Option Byte
  | [], _ => Memory.unlisted
  | (x, c) :: rest, a => if x = a then some c else Memory.get rest a

/-- Writes one byte, keeping the order of the addresses. -/
def Memory.set : Memory → Nat → Byte → Memory
  | [], a, b => [(a, b)]
  | (x, c) :: rest, a, b =>
    if a < x then (a, b) :: (x, c) :: rest
    else if a = x then (a, b) :: rest
    else (x, c) :: Memory.set rest a b

/-- Are the addresses strictly rising, each above `lo`? -/
def Memory.risingFrom : Option Nat → Memory → Bool
  | _, [] => true
  | lo, (x, _) :: rest => (lo.all fun l => decide (l < x)) && Memory.risingFrom (some x) rest

/-- The canonical form: addresses strictly rising and below 2^32. -/
def Memory.wf (m : Memory) : Bool := Memory.risingFrom none m && m.all (fun c => decide (c.1 < 2 ^ 32))

/-- Byte `k` of a word, little-endian: bits [8k+7:8k] (R105, R106). -/
def byteOf (v : Word) (k : Nat) : Byte := v.extractLsb' (8 * k) 8

/-- The guest address of byte `k` of a write at `addr`; guest addresses are 32 bits wide. -/
def byteAddress (addr : Word) (k : Nat) : Nat := (addr + BitVec.ofNat 32 k).toNat

/-- The first `n` bytes of `v`, little-endian, at `addr` (00_scope.md R15). -/
def Memory.writeLE (m : Memory) (addr : Word) (n : Nat) (v : Word) : Memory :=
  match n with
  | 0 => m
  | k + 1 => Memory.set (Memory.writeLE m addr k v) (byteAddress addr k) (byteOf v k)

end Sys2Proof.Machine
end

