-- ==== Sys2Proof/Machine/State.lean ====
section
/-! DEFINITION. The state of one controller instance (10_state.md), with the script of transactions its agents hand it
and what its last step handed to them; the reasons a step can stop; the state after reset. -/

namespace Sys2Proof.Machine

open Sys2Proof

/-- A root-hub port number (R60). -/
inductive PortNo where
  | one
  | two
deriving DecidableEq, Repr

/-- The change bits of a port (R284). -/
inductive ChangeBit where
  | csc
  | pesc
  | pssc
  | ocic
  | prsc
deriving DecidableEq, Repr

/-- The controller states (R35). -/
inductive Hcfs where
  | reset
  | resume
  | operational
  | suspend
deriving DecidableEq, Repr

/-- The state record `P[p]` of a root-hub port (R60). -/
structure Port where
  /-- Current connect status: a device is attached (R62). -/
  ccs : Bool := false
  /-- Port enable status. -/
  pes : Bool := false
  /-- Port suspend status. -/
  pss : Bool := false
  /-- Port overcurrent indicator, always 0 (R64). -/
  poci : Bool := false
  /-- Port reset status: a reset is in progress. -/
  prs : Bool := false
  /-- Port power status (R65). -/
  pps : Bool := false
  /-- Low-speed device attached (R63). -/
  lsda : Bool := false
  /-- Connect status change. -/
  csc : Bool := false
  /-- Port enable status change. -/
  pesc : Bool := false
  /-- Port suspend status change. -/
  pssc : Bool := false
  /-- Port overcurrent indicator change, always 0 (R64). -/
  ocic : Bool := false
  /-- Port reset status change. -/
  prsc : Bool := false
  /-- The tick from which the reset completes, while `prs` (R67). -/
  resetDue : Nat := 0
deriving DecidableEq, Repr

/-- The context ListProc is asked with (R355). -/
structure ListCtx where
  control : Word
  command : Word
  hcca : Word
  periodCur : Word
  controlHead : Word
  controlCur : Word
  bulkHead : Word
  bulkCur : Word
  fmNumber : Word
  fmInterval : Word
  periodicStart : Word
  lsThreshold : Word
  /-- `enables.periodic`, which is PLE. -/
  periodicEnable : Bool
  /-- `enables.isochronous`, which is IE. -/
  isochronousEnable : Bool
  /-- `enables.control`, which is CLE. -/
  controlEnable : Bool
  /-- `enables.bulk`, which is BLE. -/
  bulkEnable : Bool
deriving DecidableEq, Repr

/-- What a step hands to the outside (00_scope.md R15, R131). -/
inductive Output where
  /-- The 32-bit result of a bus read (R131). -/
  | readData (v : Word)
  /-- `MemWrite(addr, n, v)` to the memory collaborator. -/
  | memWrite (addr : Word) (n : Nat) (v : Word)
  /-- `IrqAssert()`, which is `Assert(IRQ_NUM)` (R401). -/
  | irqAssert (line : Nat)
  /-- `IrqDeassert()`, which is `Deassert(IRQ_NUM)` (R401). -/
  | irqDeassert (line : Nat)
  /-- `Arm(d)` to the timer collaborator. -/
  | arm (d : Nat)
  /-- `Disarm()` to the timer collaborator. -/
  | disarm
  /-- `ListProc(ctx)`, asked of the list collaborator (R355). -/
  | listProc (ctx : ListCtx)
deriving DecidableEq, Repr

/-- One controller instance with its surroundings. A stored register never holds a 1 in a reserved bit (R32). -/
structure State where
  /-- The construction parameters (R10, R11), fixed for the instance. -/
  params : Params
  /-- Has the instance been constructed (R440)? -/
  constructed : Bool
  /-- HcControl, offset 0x04 (R34); bits [7:6] are the controller state (R35). -/
  hcControl : Word
  /-- HcCommandStatus, offset 0x08 (R36). -/
  hcCommandStatus : Word
  /-- HcInterruptStatus, offset 0x0C (R37). -/
  hcInterruptStatus : Word
  /-- HcInterrupt, the merged enables with MIE, offsets 0x10 and 0x14 (R38). -/
  hcInterrupt : Word
  /-- HcHCCA, offset 0x18 (R39). -/
  hcHCCA : Word
  /-- HcPeriodCurrentED, offset 0x1C (R40). -/
  hcPeriodCurrentED : Word
  /-- HcControlHeadED, offset 0x20 (R40). -/
  hcControlHeadED : Word
  /-- HcControlCurrentED, offset 0x24 (R40). -/
  hcControlCurrentED : Word
  /-- HcBulkHeadED, offset 0x28 (R40). -/
  hcBulkHeadED : Word
  /-- HcBulkCurrentED, offset 0x2C (R40). -/
  hcBulkCurrentED : Word
  /-- HcDoneHead, offset 0x30 (R40). -/
  hcDoneHead : Word
  /-- HcFmInterval, offset 0x34 (R41). -/
  hcFmInterval : Word
  /-- HcFmRemaining as stored, offset 0x38 (R42). -/
  hcFmRemaining : Word
  /-- HcFmNumber, offset 0x3C (R43). -/
  hcFmNumber : Word
  /-- HcPeriodicStart, offset 0x40 (R44). -/
  hcPeriodicStart : Word
  /-- HcLSThreshold, offset 0x44 (R45). -/
  hcLSThreshold : Word
  /-- HcRhStatus as stored: DRWE, OCI, OCIC, offset 0x50 (R48). -/
  hcRhStatus : Word
  /-- `P[1]` (R60). -/
  port1 : Port
  /-- `P[2]` (R60). -/
  port2 : Port
  /-- `H.timerArmed` (R70). -/
  timerArmed : Bool
  /-- `H.timerDeadline` (R71). -/
  timerDeadline : Nat
  /-- `H.SOFtime` (R72). -/
  sofTime : Nat
  /-- `H.UsbFrameTime` (R73). -/
  usbFrameTime : Nat
  /-- `H.FiPending` (R75). -/
  fiPending : Bool
  /-- `H.irqLevel` (R76): the level last pushed. -/
  irqLevel : Bool
  /-- `H.now` (R80): the host time source, owned by the timer collaborator. -/
  now : Nat
  /-- What the block has written to guest memory (R106). -/
  mem : Memory
  /-- The model's own: the transactions the agents hand the block, in the order of R111 (log 2). -/
  script : List Transaction
  /-- The guest agent's position in the script (R18). -/
  pc : Nat
  /-- The model's own: what the last step handed to the outside, in the order of its rule (log 5). -/
  out : List Output
deriving DecidableEq, Repr

/-- Why a run is stuck. Each is safe: the model stops and changes nothing. -/
inductive Fault where
  /-- Raised by every transaction but CONSTRUCT while the instance is not constructed: "No other step of the instance
  exists before it" (R440). Safe. -/
  | notConstructed
  /-- Raised by FIRE while the timer is disarmed or before its deadline: not enabled, no step (R350, R384). Safe. -/
  | timerFireNotEnabled
  /-- Raised by PRDONE while no reset of the port is in progress or before it is due: not enabled, no step (R382,
  R384). Safe. -/
  | portResetDoneNotEnabled
  /-- Raised by a 32-bit access at an offset at or above WINDOW_SIZE: it never reaches the block (R101). Safe. -/
  | outsideWindow
  /-- Raised by the step where the script holds no transaction at the pc: no agent hands the block anything (R18).
  Safe. -/
  | endOfScript
deriving DecidableEq, Repr

/-- Why a transaction is refused (R412): the model gives the step no meaning. Each is safe: no step is taken. -/
inductive Refusal where
  /-- Raised by exec for an instruction that has no meaning yet. Safe. -/
  | notModelled (mnemonic : String)
  /-- Raised by a key with CLASS = 0b11 (R132). Safe. -/
  | reservedClass
  /-- Raised by an unknown event code, SIZE other than 0b00 in the event class, and a second CONSTRUCT (R132, R440).
  Safe. -/
  | reservedEvent
  /-- Raised by an event whose port operand is outside 1 and 2 (R133). Safe. -/
  | badPort
  /-- Raised by an 8- or 16-bit bus access (R104). Safe. -/
  | subWordAccess
  /-- Raised by a 64-bit bus access (R104). Safe. -/
  | wideAccess
  /-- Raised by ADV with d = 0: R133 admits d at least 1 only. DESIGN CHOICE (log 7). Safe. -/
  | zeroAdvance
deriving DecidableEq, Repr

/-- The state after reset: what CONSTRUCT leaves of an instance with the parameters of I0 at tick 0 (R12, R81, R440),
with no transaction handed to it yet. -/
def State.reset : State where
  params := Params.i0
  constructed := true
  hcControl := 0#32
  hcCommandStatus := 0#32
  hcInterruptStatus := 0#32
  hcInterrupt := 0#32
  hcHCCA := 0#32
  hcPeriodCurrentED := 0#32
  hcControlHeadED := 0#32
  hcControlCurrentED := 0#32
  hcBulkHeadED := 0#32
  hcBulkCurrentED := 0#32
  hcDoneHead := 0#32
  hcFmInterval := 0#32
  hcFmRemaining := 0#32
  hcFmNumber := 0#32
  hcPeriodicStart := 0#32
  hcLSThreshold := 0#32
  hcRhStatus := 0#32
  port1 := { pps := true }
  port2 := { pps := true }
  timerArmed := false
  timerDeadline := 0
  sofTime := 0
  usbFrameTime := 1
  fiPending := false
  irqLevel := false
  now := 0
  mem := []
  script := []
  pc := 0
  out := []

/-- The state before CONSTRUCT. No step but CONSTRUCT reads or keeps what its registers hold (R440). -/
def State.unconstructed : State := { State.reset with constructed := false, usbFrameTime := 0, port1 := {}, port2 := {} }

end Sys2Proof.Machine
end

