-- ==== Sys2Proof/Machine/Operands.lean ====
section
/-! DEFINITION. The layouts of the registers: write masks (10_state.md R31), fields (R34 to R49), the port view (R61) and
the frame-time function (R74). -/

namespace Sys2Proof.Machine

open Sys2Proof

/-- Write mask of HcControl (R31). -/
def maskControl : Word := 0x000007FF#32
/-- Write mask of HcCommandStatus (R31). -/
def maskCommandStatus : Word := 0x0000000F#32
/-- Write mask of HcInterruptStatus and the enable bits without MIE (R31, R400). -/
def maskStatus : Word := 0x4000007F#32
/-- Write mask of HcInterruptEnable and HcInterruptDisable (R31). -/
def maskInterrupt : Word := 0xC000007F#32
/-- Write mask of HcHCCA (R31). -/
def maskHCCA : Word := 0xFFFFFF00#32
/-- Write mask of the endpoint-descriptor pointers and HcDoneHead (R31). -/
def maskED : Word := 0xFFFFFFF0#32
/-- Write mask of HcFmInterval (R31). -/
def maskFmInterval : Word := 0xFFFF3FFF#32
/-- Write mask of HcPeriodicStart (R31). -/
def maskPeriodicStart : Word := 0x00003FFF#32
/-- Write mask of HcLSThreshold (R31). -/
def maskLSThreshold : Word := 0x00000FFF#32
/-- Write mask of HcRhStatus (R31). -/
def maskRhStatus : Word := 0x80038001#32
/-- The stored bits of HcRhStatus: OCI, DRWE, OCIC (R48, R274). -/
def maskRhStatusRead : Word := 0x00028002#32
/-- Write mask of HcRhPortStatus (R31). -/
def maskPortStatus : Word := 0x001F031F#32
/-- The toggle bit, FIT of HcFmInterval and FRT of HcFmRemaining (R41, R42). -/
def maskToggle : Word := 0x80000000#32

/-- A word with the one bit `i` set. -/
def bitMask (i : Nat) : Word := 1#32 <<< i

/-- `v` with its one-bit field at `i` written (R14). -/
def writeBit (v : Word) (i : Nat) (b : Bool) : Word := if b then v ||| bitMask i else v &&& ~~~bitMask i

/-- A Boolean as bit `i` of a word. -/
def bitAt (b : Bool) (i : Nat) : Word := if b then bitMask i else 0#32

/-- Status bit SO (R37). -/
def bitSO : Nat := 0
/-- Status bit WDH (R37). -/
def bitWDH : Nat := 1
/-- Status bit SF (R37). -/
def bitSF : Nat := 2
/-- Status bit UE (R37). -/
def bitUE : Nat := 4
/-- Status bit RHSC (R37). -/
def bitRHSC : Nat := 6

/-- The HCFS encoding (R35). -/
def Hcfs.ofBits (b : BitVec 2) : Hcfs :=
  if b = 0#2 then .reset else if b = 1#2 then .resume else if b = 2#2 then .operational else .suspend

/-- HCFS, bits [7:6] of an HcControl value (R35). -/
def hcfsOf (control : Word) : Hcfs := Hcfs.ofBits (control.extractLsb' 6 2)

/-- The controller state is HcControl.HCFS (R79, R320). -/
def State.hcfs (s : State) : Hcfs := hcfsOf s.hcControl

/-- PLE, bit 2 of HcControl (R34). -/
def State.ple (s : State) : Bool := s.hcControl.getLsbD 2
/-- IE, bit 3 of HcControl (R34). -/
def State.ie (s : State) : Bool := s.hcControl.getLsbD 3
/-- CLE, bit 4 of HcControl (R34). -/
def State.cle (s : State) : Bool := s.hcControl.getLsbD 4
/-- BLE, bit 5 of HcControl (R34). -/
def State.ble (s : State) : Bool := s.hcControl.getLsbD 5

/-- Is any list enabled (R356)? -/
def State.listsEnabled (s : State) : Bool := s.ple || s.ie || s.cle || s.ble

/-- FI of an HcFmInterval value, or FR of an HcFmRemaining value: bits [13:0] (R41, R42). -/
def frameField (v : Word) : BitVec 14 := v.extractLsb' 0 14

/-- FN, bits [15:0] of HcFmNumber (R43). -/
def State.fn (s : State) : BitVec 16 := s.hcFmNumber.extractLsb' 0 16

/-- SOC, bits [17:16] of HcCommandStatus (R36). -/
def State.soc (s : State) : BitVec 2 := s.hcCommandStatus.extractLsb' 16 2

/-- `R(HcFmNumber).FN <- fn`, the other bits kept (R14). -/
def writeFN (v : Word) (fn : BitVec 16) : Word := (v &&& 0xFFFF0000#32) ||| fn.setWidth 32

/-- `R(HcCommandStatus).SOC <- soc`, the other bits kept (R14). -/
def writeSOC (v : Word) (soc : BitVec 2) : Word := (v &&& ~~~0x00030000#32) ||| (soc.setWidth 32 <<< 16)

/-- What a frame boundary loads into HcFmRemaining from an HcFmInterval value: FRT takes FIT and FR takes FI (R323,
R354). -/
def reloadValue (fmInterval : Word) : Word := (fmInterval &&& maskToggle) ||| (frameField fmInterval).setWidth 32

/-- `FrameLen(FI)` in bit times (R74). -/
def frameLen (P : Params) (fi : BitVec 14) : Nat := max (fi.toNat + 1) P.frameLenMin

/-- `FrameTime(FI)` in ticks (R74). -/
def frameTime (P : Params) (fi : BitVec 14) : Nat := frameLen P fi * P.ticksPerUsbTick

/-- The whole bit times since the last SOF (R251). -/
def State.elapsed (s : State) : Nat := (s.now - s.sofTime) / s.params.ticksPerUsbTick

/-- The Operational branch of `FmRemainingRead()` (R251, R322): the countdown stops at 0. -/
def State.liveRemaining (s : State) : Word :=
  (s.hcFmRemaining &&& maskToggle) ||| BitVec.ofNat 32 ((frameField s.hcFmRemaining).toNat - s.elapsed)

/-- `FmRemainingRead()` (R251). -/
def State.fmRemainingRead (s : State) : Word :=
  if s.hcfs = .operational then s.liveRemaining else s.hcFmRemaining

/-- `PortView(p)` of a port record (R61). -/
def portView (q : Port) : Word :=
  bitAt q.ccs 0 ||| bitAt q.pes 1 ||| bitAt q.pss 2 ||| bitAt q.poci 3 ||| bitAt q.prs 4
    ||| bitAt q.pps 8 ||| bitAt q.lsda 9
    ||| bitAt q.csc 16 ||| bitAt q.pesc 17 ||| bitAt q.pssc 18 ||| bitAt q.ocic 19 ||| bitAt q.prsc 20

/-- What HcRhStatus reads as: OCI, DRWE and OCIC; the command bits read 0 (R274). -/
def rhStatusRead (v : Word) : Word := v &&& maskRhStatusRead

/-- The port a port operand names; any other operand is refused (R133). -/
def PortNo.ofOperand (p : Nat) : Option PortNo :=
  if p = 1 then some .one else if p = 2 then some .two else none

/-- `P[p]` (R14). -/
def State.port (s : State) : PortNo → Port
  | .one => s.port1
  | .two => s.port2

/-- The change bit `b` of a port set (R284). -/
def Port.withChange (q : Port) : ChangeBit → Port
  | .csc => { q with csc := true }
  | .pesc => { q with pesc := true }
  | .pssc => { q with pssc := true }
  | .ocic => { q with ocic := true }
  | .prsc => { q with prsc := true }

/-- The offset an aligned word index and low bits make. -/
def offsetOf (w : WordIndex) (low : Nat) : Nat := 4 * w.toNat + low

/-- R101: the offset a bus address has in the window, if it lies in it. DESIGN CHOICE (log 14): bus addresses are 32 bits
wide, and the part of a window that would run past 2^32 has no bus address; it does not wrap to address 0. -/
def windowOffset (P : Params) (address : Word) : Option Nat :=
  if P.windowBase ≤ address ∧ address.toNat - P.windowBase.toNat < P.windowSize
  then some (address.toNat - P.windowBase.toNat) else none

/-- R105: the bus address of byte `k` of the register at an offset, as a natural number that does not wrap; `byteOf` gives
the byte. DESIGN CHOICE (log 14): in a window that runs past 2^32 the number is no 32-bit bus address. -/
def laneAddress (P : Params) (offset k : Nat) : Nat := P.windowBase.toNat + offset + k

end Sys2Proof.Machine
end

