-- ==== Sys2Proof/Machine/Flags.lean ====
section
/-! DEFINITION. The interrupt engine (60_exceptions.md R400 to R407): the sticky status bits, the level they give and its
push to the interrupt line. The block raises no exception and has no return from one (R410, R413, R414); this is the
whole channel by which it reports. -/

namespace Sys2Proof.Machine

open Sys2Proof

/-- `IntLevel(state)` (R400). -/
def State.intLevel (s : State) : Bool :=
  s.hcInterrupt.getLsbD 31 && ((s.hcInterrupt &&& maskStatus) &&& s.hcInterruptStatus != 0#32)

/-- Hands one thing to the outside. -/
def State.emit (s : State) (o : Output) : State := { s with out := s.out ++ [o] }

/-- A step starts with nothing handed out yet. -/
def State.clearOut (s : State) : State := { s with out := [] }

/-- The push of a level to the line `IRQ_NUM` (R401). -/
def irqPush (line : Nat) (level : Bool) : Output := if level then .irqAssert line else .irqDeassert line

/-- `UpdateInterrupt()` (R401): pushes a change of level, and only a change. -/
def updateInterrupt (s : State) : State :=
  if s.intLevel = s.irqLevel then s
  else { s.emit (irqPush s.params.irqNum s.intLevel) with irqLevel := s.intLevel }

/-- `SetInterrupt(bits)` (R402). -/
def setInterrupt (bits : Word) (s : State) : State :=
  updateInterrupt { s with hcInterruptStatus := s.hcInterruptStatus ||| (bits &&& maskStatus) }

/-- A status bit set by a frame fire; its line update is the fire's last step (R353, R356, R357, R358). -/
def setStatusBit (i : Nat) (s : State) : State :=
  { s with hcInterruptStatus := s.hcInterruptStatus ||| bitMask i }

end Sys2Proof.Machine
end

