-- ==== Sys2Proof/Machine/Ops.lean ====
section
/-! DEFINITION. The shared operations: the gateway's shape of a read, a write and an event (40_gateway.md), the
collaborators' primitives (00_scope.md R15), the root-hub port operations (44_root_hub_registers.md) and the state machine
(45_state_machine.md). -/

namespace Sys2Proof.Machine

open Sys2Proof

/-- The answer of a step. -/
abbrev Answer := Host.Outcome State Fault Refusal

/-! ### The shape of a step -/

/-- A step of a constructed instance; before CONSTRUCT there is none (R440). -/
def live (s : State) (k : Answer) : Answer := if s.constructed then k else .fault .notConstructed

/-- A read returns its value and changes no state (R108, R160). -/
def busRead (v : Word) (s : State) : Answer := live s (.next (s.clearOut.emit (.readData v)))

/-- A write runs its register's rule and then `UpdateInterrupt()` (R161). -/
def busWrite (f : State → State) (s : State) : Answer := live s (.next (updateInterrupt (f s.clearOut)))

/-- A read or write of the window at an offset that names no register: it reaches the block only inside the window
(R101). -/
def inWindow (offset : Nat) (s : State) (k : Answer) : Answer :=
  if offset < s.params.windowSize then k else live s (.fault .outsideWindow)

/-- A tolerated read: zero, and no state changes (R162, R164). -/
def toleratedRead (offset : Nat) (s : State) : Answer := inWindow offset s (busRead 0#32 s)

/-- A tolerated write: skip, then `UpdateInterrupt()` (R161, R163, R164). -/
def toleratedWrite (offset : Nat) (s : State) : Answer := inWindow offset s (busWrite id s)

/-- An event with a port operand; a port outside 1 and 2 is refused (R133). -/
def withPort (p : Nat) (s : State) (k : PortNo → Answer) : Answer :=
  match PortNo.ofOperand p with
  | none => .refused .badPort
  | some q => live s (k q)

/-! ### The collaborators' primitives -/

/-- `MemWrite(addr, n, v)` (R15, R107). -/
def memWrite (addr : Word) (n : Nat) (v : Word) (s : State) : State :=
  { s.emit (.memWrite addr n v) with mem := s.mem.writeLE addr n v }

/-- `Arm(d)` with the fields that record it (R323, R358, R359). -/
def armTimer (d : Nat) (s : State) : State :=
  { s.emit (.arm d) with timerArmed := true, timerDeadline := s.now + d }

/-- `Disarm()` with the field that records it (R322, R324, R359). -/
def disarmTimer (s : State) : State := { s.emit .disarm with timerArmed := false }

/-- May the timer fire (R350)? -/
def State.fireEnabled (s : State) : Bool := s.timerArmed && decide (s.timerDeadline ≤ s.now)

/-- May the reset of port `p` complete (R382)? -/
def State.portResetDoneEnabled (s : State) (p : PortNo) : Bool :=
  (s.port p).prs && decide ((s.port p).resetDue ≤ s.now)

/-! ### Ports -/

/-- `P[p]` changed by a function of it. -/
def modifyPort (p : PortNo) (f : Port → Port) (s : State) : State :=
  match p with
  | .one => { s with port1 := f s.port1 }
  | .two => { s with port2 := f s.port2 }

/-- `RaiseChange(p, b)` (R284): the change bit, then RHSC. -/
def raiseChange (p : PortNo) (b : ChangeBit) (s : State) : State :=
  setInterrupt (bitMask bitRHSC) (modifyPort p (·.withChange b) s)

/-- What a port record is after `PortPowerOff` when NPS = 0 (R282). -/
def Port.powerOff (q : Port) : Port := { q with pps := false, pes := false, pss := false, prs := false }

/-- `PortPowerOff(p)` (R282). -/
def portPowerOff (p : PortNo) (s : State) : State := if s.params.nps then s else modifyPort p Port.powerOff s

/-- `PortPowerOn(p)` (R283). -/
def portPowerOn (p : PortNo) (s : State) : State :=
  if s.params.nps then s else modifyPort p (fun q => { q with pps := true }) s

/-- `SetGlobalPower()` (R285). -/
def setGlobalPower (s : State) : State := portPowerOn .two (portPowerOn .one s)

/-- `ClearGlobalPower()` (R286). -/
def clearGlobalPower (s : State) : State := portPowerOff .two (portPowerOff .one s)

/-- Step 1 of `PortWrite`: the write-1-to-clear of the change bits (R280). -/
def Port.clearChanges (w : Word) (q : Port) : Port :=
  { q with
    csc := q.csc && !w.getLsbD 16
    pesc := q.pesc && !w.getLsbD 17
    pssc := q.pssc && !w.getLsbD 18
    ocic := q.ocic && !w.getLsbD 19
    prsc := q.prsc && !w.getLsbD 20 }

/-- A command that runs when its bit is written 1. -/
def whenSet (b : Bool) (f : State → State) (s : State) : State := if b then f s else s

/-- Bit 0, ClearPortEnable (R280). -/
def clearPortEnable (p : PortNo) (s : State) : State :=
  modifyPort p (fun q => { q with pes := false, pss := false }) s

/-- Bit 1, SetPortEnable (R280, R281). -/
def setPortEnable (p : PortNo) (s : State) : State :=
  if (s.port p).ccs then modifyPort p (fun q => { q with pes := true }) s else raiseChange p .csc s

/-- Bit 2, SetPortSuspend (R280, R281). -/
def setPortSuspend (p : PortNo) (s : State) : State :=
  if (s.port p).ccs then
    if (s.port p).pes then modifyPort p (fun q => { q with pss := true }) s else s
  else raiseChange p .csc s

/-- Bit 3, ClearSuspendStatus (R280). -/
def clearSuspendStatus (p : PortNo) (s : State) : State :=
  if (s.port p).pss then raiseChange p .pssc (modifyPort p (fun q => { q with pss := false }) s) else s

/-- Bit 4, SetPortReset (R280, R281). -/
def setPortReset (p : PortNo) (s : State) : State :=
  if (s.port p).ccs then
    if (s.port p).prs then s
    else modifyPort p (fun q => { q with prs := true, resetDue := s.now + s.params.portResetTicks }) s
  else raiseChange p .csc s

/-- Step 2 of `PortWrite`: the commands that need port power, in ascending bit order (R280). -/
def portCommands (p : PortNo) (w : Word) (s : State) : State :=
  whenSet (w.getLsbD 4) (setPortReset p)
    (whenSet (w.getLsbD 3) (clearSuspendStatus p)
      (whenSet (w.getLsbD 2) (setPortSuspend p)
        (whenSet (w.getLsbD 1) (setPortEnable p)
          (whenSet (w.getLsbD 0) (clearPortEnable p) s))))

/-- Step 3 of `PortWrite`: power, clear before set (R280). -/
def portPowerCommands (p : PortNo) (w : Word) (s : State) : State :=
  whenSet (w.getLsbD 8) (portPowerOn p) (whenSet (w.getLsbD 9) (portPowerOff p) s)

/-- `PortWrite(p, v)` (R280) of a value already masked. -/
def portWriteMasked (p : PortNo) (w : Word) (s : State) : State :=
  let cleared := modifyPort p (Port.clearChanges w) s
  portPowerCommands p w (if (cleared.port p).pps then portCommands p w cleared else cleared)

/-- `PortWrite(p, v)` (R280). -/
def portWrite (p : PortNo) (v : Word) (s : State) : State := portWriteMasked p (v &&& maskPortStatus) s

/-! ### The state machine -/

/-- `LeaveOperational()` (R322). -/
def leaveOperational (s : State) : State := { disarmTimer s with hcFmRemaining := s.liveRemaining }

/-- `EnterOperational()` (R323). -/
def enterOperational (s : State) : State :=
  armTimer s.usbFrameTime { s with sofTime := s.now, hcFmRemaining := reloadValue s.hcFmInterval }

/-- The registers the Reset procedure zeroes, and the two hidden fields that go with them (R324). -/
def zeroRegisters (s : State) : State :=
  { s with
    hcControl := 0#32
    hcCommandStatus := 0#32
    hcInterruptStatus := 0#32
    hcInterrupt := 0#32
    hcHCCA := 0#32
    hcPeriodCurrentED := 0#32
    hcControlHeadED := 0#32
    hcControlCurrentED := 0#32
    hcBulkHeadED := 0#32
    hcBulkCurrentED := 0#32
    hcDoneHead := 0#32
    hcFmInterval := 0#32
    hcFmRemaining := 0#32
    hcFmNumber := 0#32
    hcPeriodicStart := 0#32
    hcLSThreshold := 0#32
    hcRhStatus := 0#32
    usbFrameTime := frameTime s.params 0#14
    fiPending := false }

/-- A port after the Reset procedure: CCS, LSDA and resetDue stay, PPS is NPS, all else is 0 (R324, R81). -/
def Port.afterReset (nps : Bool) (q : Port) : Port :=
  { ccs := q.ccs, lsda := q.lsda, pps := nps, resetDue := q.resetDue }

/-- `ResetProcedure()` (R324): disarm, then zero, then the ports. -/
def resetProcedure (s : State) : State :=
  modifyPort .two (Port.afterReset s.params.nps)
    (modifyPort .one (Port.afterReset s.params.nps) (zeroRegisters (disarmTimer s)))

/-- `ChangeState(old, new)` (R321). -/
def changeState (old new : Hcfs) (s : State) : State :=
  if old = new then s
  else
    let left := if old = .operational then leaveOperational s else s
    match new with
    | .reset => resetProcedure left
    | .operational => enterOperational left
    | .suspend => left
    | .resume => left

/-- `Construct()` (R440): the values of R81 with no device attached and the hidden times 0; nothing is pushed. -/
def construct (s : State) : State :=
  { zeroRegisters s.clearOut with
    constructed := true
    port1 := { pps := s.params.nps }
    port2 := { pps := s.params.nps }
    timerArmed := false
    timerDeadline := 0
    sofTime := 0
    irqLevel := false }

/-! ### The agents' script -/

/-- The transaction at the pc, if the script holds one there (R18). -/
def fetch (s : State) : Option Transaction := s.script[s.pc]?

/-- The pc advances by one per transaction (R18). -/
def advance (s : State) : State := { s with pc := s.pc + 1 }

/-- A script with `t` at position `n`; a script that ends before it is filled up with reads of HcRevision. -/
def placeAt : List Transaction → Nat → Transaction → List Transaction
  | [], 0, t => [t]
  | _ :: rest, 0, t => t :: rest
  | [], n + 1, t => encode .rdHcRevision :: placeAt [] n t
  | x :: rest, n + 1, t => x :: placeAt rest n t

/-- The state whose next transaction is the table word `w`, its operands left out. -/
def placeTableWord (s : State) (nbits w : Nat) : State :=
  { s with script := placeAt s.script s.pc (tableTransaction (w % 2 ^ nbits)) }

end Sys2Proof.Machine
end

