-- ==== Sys2Proof/Machine/Control.lean ====
section
/-! DEFINITION. The control and status registers (41_control_status.md R180 to R192). -/

namespace Sys2Proof.Machine

open Sys2Proof

/-- `RD_HcRevision` (R180): the same value in every state. -/
def execRdHcRevision (s : State) : Answer := busRead Config.revision s

/-- `WR_HcRevision` (R181): read-only, skip. -/
def execWrHcRevision (_v : Word) (s : State) : Answer := busWrite id s

/-- `RD_HcControl` (R182). -/
def execRdHcControl (s : State) : Answer := busRead s.hcControl s

/-- The register rule of a write of HcControl (R183): the store, then the transition from the old state to the new. -/
def writeControl (v : Word) (s : State) : State :=
  changeState s.hcfs (hcfsOf (v &&& maskControl)) { s with hcControl := v &&& maskControl }

/-- `WR_HcControl` (R183). -/
def execWrHcControl (v : Word) (s : State) : Answer := busWrite (writeControl v) s

/-- `RD_HcCommandStatus` (R184). -/
def execRdHcCommandStatus (s : State) : Answer := busRead s.hcCommandStatus s

/-- The register rule of a write of HcCommandStatus (R185): HCR runs the Reset procedure and the other bits are lost;
otherwise the bits are set. -/
def writeCommandStatus (v : Word) (s : State) : State :=
  if (v &&& maskCommandStatus).getLsbD 0 then resetProcedure s
  else { s with hcCommandStatus := s.hcCommandStatus ||| (v &&& maskCommandStatus) }

/-- `WR_HcCommandStatus` (R185). -/
def execWrHcCommandStatus (v : Word) (s : State) : Answer := busWrite (writeCommandStatus v) s

/-- `RD_HcInterruptStatus` (R186). -/
def execRdHcInterruptStatus (s : State) : Answer := busRead s.hcInterruptStatus s

/-- `WR_HcInterruptStatus` (R187): write-1-to-clear. -/
def execWrHcInterruptStatus (v : Word) (s : State) : Answer :=
  busWrite (fun s => { s with hcInterruptStatus := s.hcInterruptStatus &&& ~~~(v &&& maskStatus) }) s

/-- `RD_HcInterruptEnable` (R188). -/
def execRdHcInterruptEnable (s : State) : Answer := busRead s.hcInterrupt s

/-- `WR_HcInterruptEnable` (R189): write-1-to-set on HcInterrupt. -/
def execWrHcInterruptEnable (v : Word) (s : State) : Answer :=
  busWrite (fun s => { s with hcInterrupt := s.hcInterrupt ||| (v &&& maskInterrupt) }) s

/-- `RD_HcInterruptDisable` (R190): the same value as at the enable port. -/
def execRdHcInterruptDisable (s : State) : Answer := busRead s.hcInterrupt s

/-- `WR_HcInterruptDisable` (R191): write-1-to-clear on HcInterrupt. -/
def execWrHcInterruptDisable (v : Word) (s : State) : Answer :=
  busWrite (fun s => { s with hcInterrupt := s.hcInterrupt &&& ~~~(v &&& maskInterrupt) }) s

end Sys2Proof.Machine
end

