-- ==== Sys2Proof/Machine/Events.lean ====
section
/-! DEFINITION. The port and environment events and construction (47_port_events.md R380 to R384, 70_reset_and_hazards.md R440). -/

namespace Sys2Proof.Machine

open Sys2Proof

/-- `Attach(p, lowSpeed)` (R380) but for its `UpdateInterrupt()`. -/
def attachPort (p : PortNo) (lowSpeed : Bool) (s : State) : State :=
  if (s.port p).ccs then s
  else raiseChange p .csc (modifyPort p (fun q => { q with ccs := true, lsda := lowSpeed }) s)

/-- A port record without its device (R381). -/
def Port.detached (q : Port) : Port :=
  { q with ccs := false, lsda := false, pes := false, pss := false, prs := false }

/-- `Detach(p)` (R381) but for its `UpdateInterrupt()`: CSC, and PESC if the port was enabled. -/
def detachPort (p : PortNo) (s : State) : State :=
  if (s.port p).ccs then
    whenSet (s.port p).pes (raiseChange p .pesc) (raiseChange p .csc (modifyPort p Port.detached s))
  else s

/-- A port record whose reset is done (R382). -/
def Port.resetDone (q : Port) : Port := { q with prs := false, pes := true, pss := false }

/-- `PortResetDone(p)` (R382) but for its `UpdateInterrupt()`: PRSC, and CSC if a device is present. -/
def portResetDone (p : PortNo) (s : State) : State :=
  whenSet (s.port p).ccs (raiseChange p .csc) (raiseChange p .prsc (modifyPort p Port.resetDone s))

/-- `ATTACH` (R380). -/
def execAttach (p : Nat) (lowSpeed : Bool) (s : State) : Answer :=
  withPort p s fun q => .next (updateInterrupt (attachPort q lowSpeed s.clearOut))

/-- `DETACH` (R381). -/
def execDetach (p : Nat) (s : State) : Answer :=
  withPort p s fun q => .next (updateInterrupt (detachPort q s.clearOut))

/-- `PRDONE` (R382): a completion that is not enabled has no step (R384). -/
def execPrdone (p : Nat) (s : State) : Answer :=
  withPort p s fun q =>
    if s.portResetDoneEnabled q then .next (updateInterrupt (portResetDone q s.clearOut))
    else .fault .portResetDoneNotEnabled

/-- `ADV` (R383): time passes and nothing else happens; no tick is no operand (R133). -/
def execAdv (d : Nat) (s : State) : Answer :=
  if d = 0 then .refused .zeroAdvance else live s (.next { s.clearOut with now := s.now + d })

/-- `CONSTRUCT` (R440): once, as the first step of the instance; a second one is refused. -/
def execConstruct (s : State) : Answer :=
  if s.constructed then .refused .reservedEvent else .next (construct s)

end Sys2Proof.Machine
end

