-- ==== Sys2Proof/Machine/Frame.lean ====
section
/-! DEFINITION. The frame counter registers (43_frame_registers.md R240 to R251). -/

namespace Sys2Proof.Machine

open Sys2Proof

/-- `RD_HcFmInterval` (R240). -/
def execRdHcFmInterval (s : State) : Answer := busRead s.hcFmInterval s

/-- The register rule of a write of HcFmInterval (R241): a change of FIT is noted and the cached frame time follows FI;
the armed timer keeps its deadline. -/
def writeFmInterval (v : Word) (s : State) : State :=
  { s with
    fiPending := s.fiPending || ((v &&& maskFmInterval).getLsbD 31 != s.hcFmInterval.getLsbD 31)
    hcFmInterval := v &&& maskFmInterval
    usbFrameTime := frameTime s.params (frameField (v &&& maskFmInterval)) }

/-- `WR_HcFmInterval` (R241). -/
def execWrHcFmInterval (v : Word) (s : State) : Answer := busWrite (writeFmInterval v) s

/-- `RD_HcFmRemaining` (R242): the live countdown while Operational (R251). -/
def execRdHcFmRemaining (s : State) : Answer := busRead s.fmRemainingRead s

/-- `WR_HcFmRemaining` (R243): the guest cannot set it, skip. -/
def execWrHcFmRemaining (_v : Word) (s : State) : Answer := busWrite id s

/-- `RD_HcFmNumber` (R244). -/
def execRdHcFmNumber (s : State) : Answer := busRead (s.fn.setWidth 32) s

/-- `WR_HcFmNumber` (R245): skip. -/
def execWrHcFmNumber (_v : Word) (s : State) : Answer := busWrite id s

/-- `RD_HcPeriodicStart` (R246). -/
def execRdHcPeriodicStart (s : State) : Answer := busRead s.hcPeriodicStart s

/-- `WR_HcPeriodicStart` (R247). -/
def execWrHcPeriodicStart (v : Word) (s : State) : Answer :=
  busWrite (fun s => { s with hcPeriodicStart := v &&& maskPeriodicStart }) s

/-- `RD_HcLSThreshold` (R248). -/
def execRdHcLSThreshold (s : State) : Answer := busRead s.hcLSThreshold s

/-- `WR_HcLSThreshold` (R249). -/
def execWrHcLSThreshold (v : Word) (s : State) : Answer :=
  busWrite (fun s => { s with hcLSThreshold := v &&& maskLSThreshold }) s

end Sys2Proof.Machine
end

