-- ==== Sys2Proof/Machine/FrameTimer.lean ====
section
/-! DEFINITION. The frame timer's fire and the frame-boundary worker (46_frame_timer.md R350 to R362). -/

namespace Sys2Proof.Machine

open Sys2Proof

/-- Step 1, the frame number (R352). -/
def stepFrameNumber (s : State) : State :=
  memWrite (s.hcHCCA + 0x80#32) 4 ((s.fn + 1#16).setWidth 32)
    { s with hcFmNumber := writeFN s.hcFmNumber (s.fn + 1#16) }

/-- Step 2, the SOF (R353). -/
def stepSOF (s : State) : State := setStatusBit bitSF s

/-- Step 3, reloading the countdown (R354). -/
def stepReload (s : State) : State :=
  { s with hcFmRemaining := reloadValue s.hcFmInterval, fiPending := false, sofTime := s.now }

/-- The context ListProc is asked with (R355). -/
def listContext (s : State) : ListCtx where
  control := s.hcControl
  command := s.hcCommandStatus
  hcca := s.hcHCCA
  periodCur := s.hcPeriodCurrentED
  controlHead := s.hcControlHeadED
  controlCur := s.hcControlCurrentED
  bulkHead := s.hcBulkHeadED
  bulkCur := s.hcBulkCurrentED
  fmNumber := s.hcFmNumber
  fmInterval := s.hcFmInterval
  periodicStart := s.hcPeriodicStart
  lsThreshold := s.hcLSThreshold
  periodicEnable := s.ple
  isochronousEnable := s.ie
  controlEnable := s.cle
  bulkEnable := s.ble

/-- An updated current-ED pointer, masked; without one the register stays (R356). -/
def updatedED (old : Word) : Option Word → Word
  | none => old
  | some a => a &&& maskED

/-- HcCommandStatus after the list answer: SOC counts an overrun mod 4, CLF and BLF are cleared as told (R356). -/
def listCommandStatus (lr : LR) (s : State) : Word :=
  let counted := if lr.overrun then writeSOC s.hcCommandStatus (s.soc + 1#2) else s.hcCommandStatus
  let clf := if lr.clearCLF then writeBit counted 1 false else counted
  if lr.clearBLF then writeBit clf 2 false else clf

/-- The list answer applied to the registers (R356). -/
def applyListAnswer (lr : LR) (s : State) : State :=
  { whenSet lr.error (setStatusBit bitUE) (whenSet lr.overrun (setStatusBit bitSO) s) with
    hcCommandStatus := listCommandStatus lr s
    hcPeriodCurrentED := updatedED s.hcPeriodCurrentED lr.periodCur
    hcControlCurrentED := updatedED s.hcControlCurrentED lr.controlCur
    hcBulkCurrentED := updatedED s.hcBulkCurrentED lr.bulkCur }

/-- The answer that counts: `lr` when ListProc is asked, and LR_NONE when no list is enabled (R356). -/
def effectiveAnswer (lr : LR) (s : State) : LR := if s.listsEnabled then lr else LR.nothing

/-- Step 4, the lists (R356). -/
def stepLists (lr : LR) (s : State) : State :=
  if s.listsEnabled then applyListAnswer lr (s.emit (.listProc (listContext s))) else s

/-- Step 5, the done head (R357). -/
def stepDoneHead (r : LR) (s : State) : State :=
  match r.done with
  | none => s
  | some d =>
    setStatusBit bitWDH
      (memWrite (s.hcHCCA + 0x84#32) 4 (d &&& maskED) { s with hcDoneHead := d &&& maskED })

/-- Step 6, re-arming (R358); its `UpdateInterrupt()` is the fire's last act. -/
def stepRearm (s : State) : State := updateInterrupt (armTimer s.usbFrameTime s)

/-- `FrameFire(lr)` (R351). -/
def frameFire (lr : LR) (s : State) : State :=
  let reloaded := stepReload (stepSOF (stepFrameNumber { s with timerArmed := false }))
  stepRearm (stepDoneHead (effectiveAnswer lr reloaded) (stepLists lr reloaded))

/-- `FIRE` (R351): a fire that is not enabled has no step (R350, R384). -/
def execFire (lr : LR) (s : State) : Answer :=
  live s (if s.fireEnabled then .next (frameFire lr s.clearOut) else .fault .timerFireNotEnabled)

end Sys2Proof.Machine
end

