-- ==== Sys2Proof/Machine/Gateway.lean ====
section
/-! DEFINITION. The accesses that name no register, are misaligned, or are refused (40_gateway.md R162 to R165, 30_encoding.md
R132, R136). -/

namespace Sys2Proof.Machine

open Sys2Proof

/-- `RD_MISALIGNED` with OFFSET[1:0] = 1 (R164): zero, whatever the four bytes overlap. -/
def execRdMisaligned1 (w : WordIndex) (s : State) : Answer := toleratedRead (offsetOf w 1) s

/-- `RD_MISALIGNED` with OFFSET[1:0] = 2 (R164): zero, whatever the four bytes overlap. -/
def execRdMisaligned2 (w : WordIndex) (s : State) : Answer := toleratedRead (offsetOf w 2) s

/-- `RD_MISALIGNED` with OFFSET[1:0] = 3 (R164): zero, whatever the four bytes overlap. -/
def execRdMisaligned3 (w : WordIndex) (s : State) : Answer := toleratedRead (offsetOf w 3) s

/-- `WR_MISALIGNED` with OFFSET[1:0] = 1 (R164): no state changes. -/
def execWrMisaligned1 (w : WordIndex) (_v : Word) (s : State) : Answer :=
  toleratedWrite (offsetOf w 1) s

/-- `WR_MISALIGNED` with OFFSET[1:0] = 2 (R164): no state changes. -/
def execWrMisaligned2 (w : WordIndex) (_v : Word) (s : State) : Answer :=
  toleratedWrite (offsetOf w 2) s

/-- `WR_MISALIGNED` with OFFSET[1:0] = 3 (R164): no state changes. -/
def execWrMisaligned3 (w : WordIndex) (_v : Word) (s : State) : Answer :=
  toleratedWrite (offsetOf w 3) s

/-- `RD_UNMAPPED` (R162). -/
def execRdUnmapped (w : WordIndex) (s : State) : Answer := toleratedRead (offsetOf w 0) s

/-- `WR_UNMAPPED` (R163). -/
def execWrUnmapped (w : WordIndex) (_v : Word) (s : State) : Answer := toleratedWrite (offsetOf w 0) s

/-- `RD8` (R104): refused. -/
def execRd8 (_o : Offset) (_s : State) : Answer := .refused .subWordAccess

/-- `RD16` (R104): refused. -/
def execRd16 (_o : Offset) (_s : State) : Answer := .refused .subWordAccess

/-- `RD64` (R104): refused. -/
def execRd64 (_o : Offset) (_s : State) : Answer := .refused .wideAccess

/-- `WR8` (R104): refused. -/
def execWr8 (_o : Offset) (_s : State) : Answer := .refused .subWordAccess

/-- `WR16` (R104): refused. -/
def execWr16 (_o : Offset) (_s : State) : Answer := .refused .subWordAccess

/-- `WR64` (R104): refused. -/
def execWr64 (_o : Offset) (_s : State) : Answer := .refused .wideAccess

/-- `RESERVED_CLASS` (R132): refused. -/
def execReservedClass (_code : BitVec 14) (_s : State) : Answer := .refused .reservedClass

/-- `RESERVED_EVENT` (R132): refused. -/
def execReservedEvent (_code : BitVec 14) (_s : State) : Answer := .refused .reservedEvent

end Sys2Proof.Machine
end

