-- ==== Sys2Proof/Machine/Pointers.lean ====
section
/-! DEFINITION. The memory pointer registers (42_pointers.md R220 to R233): masked stores. -/

namespace Sys2Proof.Machine

open Sys2Proof

/-- `RD_HcHCCA` (R220). -/
def execRdHcHCCA (s : State) : Answer := busRead s.hcHCCA s

/-- `WR_HcHCCA` (R221). -/
def execWrHcHCCA (v : Word) (s : State) : Answer :=
  busWrite (fun s => { s with hcHCCA := v &&& maskHCCA }) s

/-- `RD_HcPeriodCurrentED` (R222). -/
def execRdHcPeriodCurrentED (s : State) : Answer := busRead s.hcPeriodCurrentED s

/-- `WR_HcPeriodCurrentED` (R223). -/
def execWrHcPeriodCurrentED (v : Word) (s : State) : Answer :=
  busWrite (fun s => { s with hcPeriodCurrentED := v &&& maskED }) s

/-- `RD_HcControlHeadED` (R224). -/
def execRdHcControlHeadED (s : State) : Answer := busRead s.hcControlHeadED s

/-- `WR_HcControlHeadED` (R225). -/
def execWrHcControlHeadED (v : Word) (s : State) : Answer :=
  busWrite (fun s => { s with hcControlHeadED := v &&& maskED }) s

/-- `RD_HcControlCurrentED` (R226). -/
def execRdHcControlCurrentED (s : State) : Answer := busRead s.hcControlCurrentED s

/-- `WR_HcControlCurrentED` (R227). -/
def execWrHcControlCurrentED (v : Word) (s : State) : Answer :=
  busWrite (fun s => { s with hcControlCurrentED := v &&& maskED }) s

/-- `RD_HcBulkHeadED` (R228). -/
def execRdHcBulkHeadED (s : State) : Answer := busRead s.hcBulkHeadED s

/-- `WR_HcBulkHeadED` (R229). -/
def execWrHcBulkHeadED (v : Word) (s : State) : Answer :=
  busWrite (fun s => { s with hcBulkHeadED := v &&& maskED }) s

/-- `RD_HcBulkCurrentED` (R230). -/
def execRdHcBulkCurrentED (s : State) : Answer := busRead s.hcBulkCurrentED s

/-- `WR_HcBulkCurrentED` (R231). -/
def execWrHcBulkCurrentED (v : Word) (s : State) : Answer :=
  busWrite (fun s => { s with hcBulkCurrentED := v &&& maskED }) s

/-- `RD_HcDoneHead` (R232). -/
def execRdHcDoneHead (s : State) : Answer := busRead s.hcDoneHead s

/-- `WR_HcDoneHead` (R233). -/
def execWrHcDoneHead (v : Word) (s : State) : Answer :=
  busWrite (fun s => { s with hcDoneHead := v &&& maskED }) s

end Sys2Proof.Machine
end

