-- ==== Sys2Proof/Machine/RootHub.lean ====
section
/-! DEFINITION. The root-hub registers (44_root_hub_registers.md R270 to R286). -/

namespace Sys2Proof.Machine

open Sys2Proof

/-- `RD_HcRhDescriptorA` (R270): the same value in every state. -/
def execRdHcRhDescriptorA (s : State) : Answer := busRead s.params.rhdaInit s

/-- `WR_HcRhDescriptorA` (R271): fixed, skip. -/
def execWrHcRhDescriptorA (_v : Word) (s : State) : Answer := busWrite id s

/-- `RD_HcRhDescriptorB` (R272). -/
def execRdHcRhDescriptorB (s : State) : Answer := busRead s.params.rhdbInit s

/-- `WR_HcRhDescriptorB` (R273): fixed, skip. -/
def execWrHcRhDescriptorB (_v : Word) (s : State) : Answer := busWrite id s

/-- `RD_HcRhStatus` (R274). -/
def execRdHcRhStatus (s : State) : Answer := busRead (rhStatusRead s.hcRhStatus) s

/-- `R(HcRhStatus).FIELD <- b` for the one-bit field at `i`. -/
def writeRhStatusBit (i : Nat) (b : Bool) (s : State) : State := { s with hcRhStatus := writeBit s.hcRhStatus i b }

/-- The commands of a masked write of HcRhStatus, in ascending bit order (R275). -/
def rhStatusCommands (w : Word) (s : State) : State :=
  whenSet (w.getLsbD 31) (writeRhStatusBit 15 false)
    (whenSet (w.getLsbD 17) (writeRhStatusBit 17 false)
      (whenSet (w.getLsbD 16) setGlobalPower
        (whenSet (w.getLsbD 15) (writeRhStatusBit 15 true)
          (whenSet (w.getLsbD 0) clearGlobalPower s))))

/-- `WR_HcRhStatus` (R275). -/
def execWrHcRhStatus (v : Word) (s : State) : Answer := busWrite (rhStatusCommands (v &&& maskRhStatus)) s

/-- `RD_HcRhPortStatus1` (R276). -/
def execRdHcRhPortStatus1 (s : State) : Answer := busRead (portView s.port1) s

/-- `WR_HcRhPortStatus1` (R277, R280). -/
def execWrHcRhPortStatus1 (v : Word) (s : State) : Answer := busWrite (portWrite .one v) s

/-- `RD_HcRhPortStatus2` (R278). -/
def execRdHcRhPortStatus2 (s : State) : Answer := busRead (portView s.port2) s

/-- `WR_HcRhPortStatus2` (R279, R280). -/
def execWrHcRhPortStatus2 (v : Word) (s : State) : Answer := busWrite (portWrite .two v) s

end Sys2Proof.Machine
end

