-- ==== Sys2Proof/Machine/Dispatch.lean ====
section
/-! DEFINITION. One arm per constructor of Instr, each one call of its meaning. -/

namespace Sys2Proof.Machine

open Sys2Proof

/-- What one transaction does. -/
def exec (i : Instr) (s : State) : Host.Outcome State Fault Refusal :=
  match i with
  | .rdHcRevision => Sys2Proof.Machine.execRdHcRevision s
  | .wrHcRevision v => Sys2Proof.Machine.execWrHcRevision v s
  | .rdHcControl => Sys2Proof.Machine.execRdHcControl s
  | .wrHcControl v => Sys2Proof.Machine.execWrHcControl v s
  | .rdHcCommandStatus => Sys2Proof.Machine.execRdHcCommandStatus s
  | .wrHcCommandStatus v => Sys2Proof.Machine.execWrHcCommandStatus v s
  | .rdHcInterruptStatus => Sys2Proof.Machine.execRdHcInterruptStatus s
  | .wrHcInterruptStatus v => Sys2Proof.Machine.execWrHcInterruptStatus v s
  | .rdHcInterruptEnable => Sys2Proof.Machine.execRdHcInterruptEnable s
  | .wrHcInterruptEnable v => Sys2Proof.Machine.execWrHcInterruptEnable v s
  | .rdHcInterruptDisable => Sys2Proof.Machine.execRdHcInterruptDisable s
  | .wrHcInterruptDisable v => Sys2Proof.Machine.execWrHcInterruptDisable v s
  | .rdHcHCCA => Sys2Proof.Machine.execRdHcHCCA s
  | .wrHcHCCA v => Sys2Proof.Machine.execWrHcHCCA v s
  | .rdHcPeriodCurrentED => Sys2Proof.Machine.execRdHcPeriodCurrentED s
  | .wrHcPeriodCurrentED v => Sys2Proof.Machine.execWrHcPeriodCurrentED v s
  | .rdHcControlHeadED => Sys2Proof.Machine.execRdHcControlHeadED s
  | .wrHcControlHeadED v => Sys2Proof.Machine.execWrHcControlHeadED v s
  | .rdHcControlCurrentED => Sys2Proof.Machine.execRdHcControlCurrentED s
  | .wrHcControlCurrentED v => Sys2Proof.Machine.execWrHcControlCurrentED v s
  | .rdHcBulkHeadED => Sys2Proof.Machine.execRdHcBulkHeadED s
  | .wrHcBulkHeadED v => Sys2Proof.Machine.execWrHcBulkHeadED v s
  | .rdHcBulkCurrentED => Sys2Proof.Machine.execRdHcBulkCurrentED s
  | .wrHcBulkCurrentED v => Sys2Proof.Machine.execWrHcBulkCurrentED v s
  | .rdHcDoneHead => Sys2Proof.Machine.execRdHcDoneHead s
  | .wrHcDoneHead v => Sys2Proof.Machine.execWrHcDoneHead v s
  | .rdHcFmInterval => Sys2Proof.Machine.execRdHcFmInterval s
  | .wrHcFmInterval v => Sys2Proof.Machine.execWrHcFmInterval v s
  | .rdHcFmRemaining => Sys2Proof.Machine.execRdHcFmRemaining s
  | .wrHcFmRemaining v => Sys2Proof.Machine.execWrHcFmRemaining v s
  | .rdHcFmNumber => Sys2Proof.Machine.execRdHcFmNumber s
  | .wrHcFmNumber v => Sys2Proof.Machine.execWrHcFmNumber v s
  | .rdHcPeriodicStart => Sys2Proof.Machine.execRdHcPeriodicStart s
  | .wrHcPeriodicStart v => Sys2Proof.Machine.execWrHcPeriodicStart v s
  | .rdHcLSThreshold => Sys2Proof.Machine.execRdHcLSThreshold s
  | .wrHcLSThreshold v => Sys2Proof.Machine.execWrHcLSThreshold v s
  | .rdHcRhDescriptorA => Sys2Proof.Machine.execRdHcRhDescriptorA s
  | .wrHcRhDescriptorA v => Sys2Proof.Machine.execWrHcRhDescriptorA v s
  | .rdHcRhDescriptorB => Sys2Proof.Machine.execRdHcRhDescriptorB s
  | .wrHcRhDescriptorB v => Sys2Proof.Machine.execWrHcRhDescriptorB v s
  | .rdHcRhStatus => Sys2Proof.Machine.execRdHcRhStatus s
  | .wrHcRhStatus v => Sys2Proof.Machine.execWrHcRhStatus v s
  | .rdHcRhPortStatus1 => Sys2Proof.Machine.execRdHcRhPortStatus1 s
  | .wrHcRhPortStatus1 v => Sys2Proof.Machine.execWrHcRhPortStatus1 v s
  | .rdHcRhPortStatus2 => Sys2Proof.Machine.execRdHcRhPortStatus2 s
  | .wrHcRhPortStatus2 v => Sys2Proof.Machine.execWrHcRhPortStatus2 v s
  | .rdMisaligned1 w => Sys2Proof.Machine.execRdMisaligned1 w s
  | .rdMisaligned2 w => Sys2Proof.Machine.execRdMisaligned2 w s
  | .rdMisaligned3 w => Sys2Proof.Machine.execRdMisaligned3 w s
  | .wrMisaligned1 w v => Sys2Proof.Machine.execWrMisaligned1 w v s
  | .wrMisaligned2 w v => Sys2Proof.Machine.execWrMisaligned2 w v s
  | .wrMisaligned3 w v => Sys2Proof.Machine.execWrMisaligned3 w v s
  | .rdUnmapped w => Sys2Proof.Machine.execRdUnmapped w s
  | .wrUnmapped w v => Sys2Proof.Machine.execWrUnmapped w v s
  | .rd8 o => Sys2Proof.Machine.execRd8 o s
  | .rd16 o => Sys2Proof.Machine.execRd16 o s
  | .rd64 o => Sys2Proof.Machine.execRd64 o s
  | .wr8 o => Sys2Proof.Machine.execWr8 o s
  | .wr16 o => Sys2Proof.Machine.execWr16 o s
  | .wr64 o => Sys2Proof.Machine.execWr64 o s
  | .reservedClass code => Sys2Proof.Machine.execReservedClass code s
  | .fire lr => Sys2Proof.Machine.execFire lr s
  | .attach p lowSpeed => Sys2Proof.Machine.execAttach p lowSpeed s
  | .detach p => Sys2Proof.Machine.execDetach p s
  | .prdone p => Sys2Proof.Machine.execPrdone p s
  | .adv d => Sys2Proof.Machine.execAdv d s
  | .construct => Sys2Proof.Machine.execConstruct s
  | .reservedEvent code => Sys2Proof.Machine.execReservedEvent code s

end Sys2Proof.Machine
end

