-- ==== Sys2Proof/Machine/Step.lean ====
section
/-! DEFINITION. One step: the transaction at the agents' position in the script is decoded and run, and the position moves
on by one (00_scope.md R18, 20_memory.md R110). -/

namespace Sys2Proof.Machine

open Sys2Proof

/-- A step taken moves the pc on; a step not taken leaves it. -/
def stepAnswer : Host.Outcome State Fault Refusal → Host.Outcome State Fault Refusal
  | .next s => .next (Sys2Proof.Machine.advance s)
  | .fault r => .fault r
  | .refused r => .refused r

/-- One step. -/
def step (s : State) : Host.Outcome State Fault Refusal :=
  match Sys2Proof.Machine.fetch s with
  | none => .fault .endOfScript
  | some t => stepAnswer (exec (decode t) s)

/-- The state whose next transaction is the table word `w`, each operand left out (log 6). -/
def State.withFetchWord (s : State) (nbits w : Nat) : State := Sys2Proof.Machine.placeTableWord s nbits w

end Sys2Proof.Machine
end

