-- ==== Sys2Proof/Machine/Platform.lean ====
section
/-! DEFINITION. The platform's controller instances (60_exceptions.md R430, R431): up to two copies of the one-instance
model, looked up by index, each with its own steps. -/

namespace Sys2Proof.Machine

open Sys2Proof

/-- The instances of R430; `none` where the platform holds no such instance. -/
structure Platform where
  /-- Instance 0. -/
  inst0 : Option State
  /-- Instance 1. -/
  inst1 : Option State
deriving DecidableEq, Repr

/-- The instance at an index (R431). -/
def Platform.lookup (pl : Platform) (k : Fin Config.nInstances) : Option State :=
  if k.val = 0 then pl.inst0 else pl.inst1

/-- The platform with the state of one instance replaced. -/
def Platform.put (pl : Platform) (k : Fin Config.nInstances) (s : State) : Platform :=
  if k.val = 0 then { pl with inst0 := some s } else { pl with inst1 := some s }

/-- One step of instance `k`; `none` where there is no such instance or its step is not taken. -/
def Platform.stepInstance (pl : Platform) (k : Fin Config.nInstances) : Option Platform :=
  match pl.lookup k with
  | none => none
  | some s =>
    match step s with
    | .next t => some (pl.put k t)
    | .fault _ => none
    | .refused _ => none

end Sys2Proof.Machine
end

