-- ==== Sys2Proof/Safety.lean ====
section
/-! DEFINITION. What claims about the block are stated in: the invariants the spec gives its state (10_state.md R32, R64 to
R66, R73, R77, R78), what an outside observer can tell two states apart by, the discipline of the pushes to the interrupt
line, and runs of frames. -/

namespace Sys2Proof.Machine

open Sys2Proof

/-- R32, R166: no stored register holds a reserved bit. HCR is never stored (R36), OCI and OCIC of HcRhStatus are always
0 (R48), and the status bits RD, FNO and OC are never set (R37, R403). -/
abbrev State.registersInv (s : State) : Prop :=
  s.hcControl &&& ~~~0x000007FF#32 = 0#32
    ∧ s.hcCommandStatus &&& ~~~0x0003000E#32 = 0#32
    ∧ s.hcInterruptStatus &&& ~~~0x00000057#32 = 0#32
    ∧ s.hcInterrupt &&& ~~~0xC000007F#32 = 0#32
    ∧ s.hcHCCA &&& ~~~0xFFFFFF00#32 = 0#32
    ∧ s.hcPeriodCurrentED &&& ~~~0xFFFFFFF0#32 = 0#32
    ∧ s.hcControlHeadED &&& ~~~0xFFFFFFF0#32 = 0#32
    ∧ s.hcControlCurrentED &&& ~~~0xFFFFFFF0#32 = 0#32
    ∧ s.hcBulkHeadED &&& ~~~0xFFFFFFF0#32 = 0#32
    ∧ s.hcBulkCurrentED &&& ~~~0xFFFFFFF0#32 = 0#32
    ∧ s.hcDoneHead &&& ~~~0xFFFFFFF0#32 = 0#32
    ∧ s.hcFmInterval &&& ~~~0xFFFF3FFF#32 = 0#32
    ∧ s.hcFmRemaining &&& ~~~0x80003FFF#32 = 0#32
    ∧ s.hcFmNumber &&& ~~~0x0000FFFF#32 = 0#32
    ∧ s.hcPeriodicStart &&& ~~~0x00003FFF#32 = 0#32
    ∧ s.hcLSThreshold &&& ~~~0x00000FFF#32 = 0#32
    ∧ s.hcRhStatus &&& ~~~0x00008000#32 = 0#32

/-- R64, R65 and R66 for one port. -/
abbrev Port.inv (nps : Bool) (q : Port) : Prop :=
  (q.pes = true → q.ccs = true ∧ q.pps = true)
    ∧ (q.pss = true → q.pes = true)
    ∧ (q.prs = true → q.ccs = true ∧ q.pps = true)
    ∧ (q.lsda = true → q.ccs = true)
    ∧ (q.poci = false ∧ q.ocic = false)
    ∧ (nps = true → q.pps = true)

/-- The level last pushed is the level the state gives (R78). -/
abbrev State.lineSettled (s : State) : Prop := s.irqLevel = s.intLevel

/-- The timer is armed exactly while Operational (R77); the last SOF is not in the future, and an armed deadline is after
it (R323, R354, R358, with R74). -/
abbrev State.timerInv (s : State) : Prop :=
  (s.timerArmed = true ↔ s.hcfs = .operational)
    ∧ s.sofTime ≤ s.now
    ∧ (s.timerArmed = true → s.sofTime < s.timerDeadline)

/-- What holds of every state the block can be in. -/
abbrev State.inv (s : State) : Prop :=
  s.params.valid
    ∧ s.registersInv
    ∧ (s.port1.inv s.params.nps ∧ s.port2.inv s.params.nps)
    ∧ s.timerInv
    ∧ s.usbFrameTime = frameTime s.params (frameField s.hcFmInterval)
    ∧ s.lineSettled
    ∧ s.mem.wf = true

/-- A port record with the field hidden that no rule reads while no reset is in progress (R67). -/
def Port.observable (q : Port) : Port := { q with resetDue := if q.prs then q.resetDue else 0 }

/-- A state with the fields hidden that no rule reads: H.FiPending (R75), H.timerDeadline while disarmed (R71), H.SOFtime
outside Operational (R72), resetDue while PRS = 0 (R67). -/
def State.observable (s : State) : State :=
  { s with
    fiPending := false
    timerDeadline := if s.timerArmed then s.timerDeadline else 0
    sofTime := if s.hcfs = .operational then s.sofTime else 0
    port1 := s.port1.observable
    port2 := s.port2.observable }

/-- Two answers nothing can tell apart. -/
def sameAnswer : Host.Outcome State Fault Refusal → Host.Outcome State Fault Refusal → Prop
  | .next s, .next u => s.observable = u.observable
  | .fault r, .fault q => r = q
  | .refused r, .refused q => r = q
  | _, _ => False

/-- The level of the line after a step's outputs, from its level before; `none` if an Assert came while the line was
asserted or a Deassert while it was not (R401). -/
def lineAfter : Bool → List Output → Option Bool
  | level, [] => some level
  | level, .irqAssert _ :: rest => if level then none else lineAfter true rest
  | level, .irqDeassert _ :: rest => if level then lineAfter false rest else none
  | level, _ :: rest => lineAfter level rest

/-- A run of frames: for each, time advances by `d` ticks and the timer fires with the answer `lr`; `none` if one of the
steps is not taken. -/
def frames : List (Nat × LR) → State → Option State
  | [], s => some s
  | (d, lr) :: rest, s =>
    match exec (.adv d) s with
    | .next a =>
      match exec (.fire lr) a with
      | .next b => frames rest b
      | .fault _ => none
      | .refused _ => none
    | .fault _ => none
    | .refused _ => none

/-- One act inside a step on the way to its final line update: a change of a port's record, then a gain of status bits.
No bits are a change that raises nothing. -/
structure PortAct where
  /-- The port. -/
  port : PortNo
  /-- What becomes of its record. -/
  change : Port → Port
  /-- The status bits gained. -/
  bits : Word

/-- `RaiseChange(p, b)` (R284) as an act. -/
def PortAct.raise (p : PortNo) (b : ChangeBit) : PortAct := { port := p, change := (·.withChange b), bits := 0x00000040#32 }

/-- An act with the line update inside SetInterrupt (R402). -/
def PortAct.runWithUpdate (s : State) (a : PortAct) : State := setInterrupt a.bits (modifyPort a.port a.change s)

/-- The same act with that line update dropped. -/
def PortAct.runWithoutUpdate (s : State) (a : PortAct) : State :=
  { modifyPort a.port a.change s with hcInterruptStatus := s.hcInterruptStatus ||| (a.bits &&& 0x4000007F#32) }

/-- The state of rule R81 as the Reset procedure leaves it: its table written out, with the level a line has whose enables
are all clear. -/
def State.resetValues (s : State) : State :=
  { s with
    hcControl := 0#32
    hcCommandStatus := 0#32
    hcInterruptStatus := 0#32
    hcInterrupt := 0#32
    hcHCCA := 0#32
    hcPeriodCurrentED := 0#32
    hcControlHeadED := 0#32
    hcControlCurrentED := 0#32
    hcBulkHeadED := 0#32
    hcBulkCurrentED := 0#32
    hcDoneHead := 0#32
    hcFmInterval := 0#32
    hcFmRemaining := 0#32
    hcFmNumber := 0#32
    hcPeriodicStart := 0#32
    hcLSThreshold := 0#32
    hcRhStatus := 0#32
    port1 := { ccs := s.port1.ccs, lsda := s.port1.lsda, pps := s.params.nps, resetDue := s.port1.resetDue }
    port2 := { ccs := s.port2.ccs, lsda := s.port2.lsda, pps := s.params.nps, resetDue := s.port2.resetDue }
    timerArmed := false
    usbFrameTime := max 1 s.params.frameLenMin * s.params.ticksPerUsbTick
    fiPending := false
    irqLevel := false }

/-- The level R400 gives two register values: MIE, and an enabled status bit that is set. -/
def levelOf (enables status : Word) : Bool :=
  enables.getLsbD 31 && (enables &&& 0x4000007F#32 &&& status != 0#32)

/-- The pushes that take the line from one level to another: one if they differ, none if they do not (R401). -/
def pushIfNew (line : Nat) (old new : Bool) : List Output :=
  if new = old then [] else if new then [.irqAssert line] else [.irqDeassert line]

/-- PSS as ClearSuspendStatus finds it in a port write, after bits 0 to 2 (R280). -/
def suspendSeen (v : Word) (q : Port) : Bool :=
  (q.pss && !v.getLsbD 0)
    || (v.getLsbD 2 && q.ccs && ((q.pes && !v.getLsbD 0) || v.getLsbD 1))

/-- Does a port write raise a change bit (R280, R281)? -/
def portWriteRaises (v : Word) (q : Port) : Bool :=
  q.pps && ((!q.ccs && (v.getLsbD 1 || v.getLsbD 2 || v.getLsbD 4)) || (v.getLsbD 3 && suspendSeen v q))

/-- The port record after the change-bit clears and the commands of a port write, each field in closed form (R280);
`due` is the tick a reset started now is due. -/
def portWriteCommands (v : Word) (due : Nat) (q : Port) : Port :=
  { q with
    pes := if q.pps then (q.pes && !v.getLsbD 0) || (v.getLsbD 1 && q.ccs) else q.pes
    pss := if q.pps then suspendSeen v q && !v.getLsbD 3 else q.pss
    prs := q.prs || (q.pps && v.getLsbD 4 && q.ccs)
    csc := (q.csc && !v.getLsbD 16)
      || (q.pps && !q.ccs && (v.getLsbD 1 || v.getLsbD 2 || v.getLsbD 4))
    pesc := q.pesc && !v.getLsbD 17
    pssc := (q.pssc && !v.getLsbD 18) || (q.pps && v.getLsbD 3 && suspendSeen v q)
    ocic := q.ocic && !v.getLsbD 19
    prsc := q.prsc && !v.getLsbD 20
    resetDue := if q.pps && v.getLsbD 4 && q.ccs && !q.prs then due else q.resetDue }

/-- The power commands of a write on one port record: off first, then on, and neither when NPS = 1 (R280, R282, R283,
R285, R286). -/
def powerResult (nps off on : Bool) (q : Port) : Port :=
  if nps then q
  else
    { q with
      pps := on || (q.pps && !off)
      pes := q.pes && !off
      pss := q.pss && !off
      prs := q.prs && !off }

/-- Is the instruction a bus read that the spec admits (R108)? -/
def isRead : Instr → Bool
  | .rdHcRevision | .rdHcControl | .rdHcCommandStatus | .rdHcInterruptStatus | .rdHcInterruptEnable
  | .rdHcInterruptDisable | .rdHcHCCA | .rdHcPeriodCurrentED | .rdHcControlHeadED | .rdHcControlCurrentED
  | .rdHcBulkHeadED | .rdHcBulkCurrentED | .rdHcDoneHead | .rdHcFmInterval | .rdHcFmRemaining | .rdHcFmNumber
  | .rdHcPeriodicStart | .rdHcLSThreshold | .rdHcRhDescriptorA | .rdHcRhDescriptorB | .rdHcRhStatus
  | .rdHcRhPortStatus1 | .rdHcRhPortStatus2 | .rdMisaligned1 _ | .rdMisaligned2 _ | .rdMisaligned3 _
  | .rdUnmapped _ => true
  | _ => false

/-- Does the instruction run the Reset procedure in this state: a write of HcControl that moves HCFS to Reset, or an HCR
command (R321, R329)? -/
def resets (i : Instr) (s : State) : Bool :=
  match i with
  | .wrHcControl v => v.extractLsb' 6 2 == 0#2 && s.hcfs != .reset
  | .wrHcCommandStatus v => v.getLsbD 0
  | _ => false

/-- What the last step returned to a bus read, if it was one. -/
def State.readResult (s : State) : Option Word :=
  match s.out with
  | [.readData v] => some v
  | _ => none

end Sys2Proof.Machine
end

