-- ==== Sys2Proof/Certificates/Slice0/Obligations.lean ====
section
/-! DEFINITION. The statements for the provers. Each is a rule of the spec, or several, over every state of one controller
instance and every value of its parameters. `s.lineSettled` (the level last pushed is the level the state gives, R78) is
an invariant: InvariantKeptByStep. The fields `out` (what a step hands to the outside, log 5), `mem` (the bytes the block has
written, log 4), `script` and `pc` (the agents' transactions, log 2) are the model's own form for what the spec says of the
collaborators and the agents. -/

open Sys2Proof Sys2Proof.Machine

/-! ### The step, the decoder and the encoder -/

/-- R18, R110: one step runs the transaction at the pc and moves the pc on by one; a step not taken moves nothing. The one
script is the model's choice (log 2). -/
def Obligations.StepRunsDecodedTransaction : Prop :=
  ∀ (s : State) (t : Transaction), s.script[s.pc]? = some t →
    step s =
      match exec (decode t) s with
      | .next u => .next { u with pc := u.pc + 1 }
      | .fault r => .fault r
      | .refused r => .refused r

/-- R132, R133, R134: keys written out from the spec's encoding decode to the transactions they stand for, whatever the
operands are. -/
def Obligations.WrittenKeysDecode : Prop :=
  ∀ ops : TxOperands,
    decode ⟨0x2004#16, ops⟩ = .rdHcControl
      ∧ decode ⟨0x6058#16, ops⟩ = .wrHcRhPortStatus2 ops.v
      ∧ decode ⟨0x6018#16, ops⟩ = .wrHcHCCA ops.v
      ∧ decode ⟨0x2038#16, ops⟩ = .rdHcFmRemaining
      ∧ decode ⟨0x2006#16, ops⟩ = .rdMisaligned2 1#10
      ∧ decode ⟨0x6005#16, ops⟩ = .wrMisaligned1 1#10 ops.v
      ∧ decode ⟨0x2FFF#16, ops⟩ = .rdMisaligned3 0x3FF#10
      ∧ decode ⟨0x205C#16, ops⟩ = .rdUnmapped 23#10
      ∧ decode ⟨0x6FFC#16, ops⟩ = .wrUnmapped 0x3FF#10 ops.v
      ∧ decode ⟨0x0004#16, ops⟩ = .rd8 4#12
      ∧ decode ⟨0x5004#16, ops⟩ = .wr16 4#12
      ∧ decode ⟨0x3004#16, ops⟩ = .rd64 4#12
      ∧ decode ⟨0xC000#16, ops⟩ = .reservedClass 0#14
      ∧ decode ⟨0x8006#16, ops⟩ = .reservedEvent 6#14
      ∧ decode ⟨0x9000#16, ops⟩ = .reservedEvent 0x1000#14
      ∧ decode ⟨0x8000#16, ops⟩ = .fire ops.lr
      ∧ decode ⟨0x8001#16, ops⟩ = .attach ops.p ops.lowSpeed
      ∧ decode ⟨0x8002#16, ops⟩ = .detach ops.p
      ∧ decode ⟨0x8003#16, ops⟩ = .prdone ops.p
      ∧ decode ⟨0x8004#16, ops⟩ = .adv ops.d
      ∧ decode ⟨0x8005#16, ops⟩ = .construct

/-- Decoding an encoded instruction gives it back, with every field and operand at every value. -/
def Obligations.DecodeOfEncode : Prop :=
  ∀ i : Instr, i.encodable = true → decode (encode i) = i

/-- Every transaction decodes to an instruction that has a key, and that key is the transaction's: no bit of a key is
dropped, and no key is left over (R132). -/
def Obligations.EncodeOfDecodeKeepsKey : Prop :=
  ∀ t : Transaction, (decode t).encodable = true ∧ (encode (decode t)).key = t.key

/-- R134: the decode order of R132 takes, for every key, the matching row of lowest priority of the opcode table. -/
def Obligations.DecoderTakesLowestPriorityRow : Prop :=
  ∀ t : Transaction, (tableRow t.key).map OpRow.mnemonic = some (decode t).mnemonic

/-! ### Invariants -/

/-- The invariants of 10_state.md (R32, R64 to R66, R73, R77, R78) and the canonical form of memory are kept by every
step from every state that has them. -/
def Obligations.InvariantKeptByStep : Prop :=
  ∀ s t : State, s.inv → step s = .next t → t.inv

/-- The state after reset has the invariants. Its parameters are the model's choice (log 1). -/
def Obligations.InvariantAtReset : Prop := State.reset.inv

/-- R440: for all admitted parameters (R11), NPS = 0 among them, CONSTRUCT completes and the state it leaves has the
invariants, whatever the registers and ports held before. -/
def Obligations.InvariantAtConstruction : Prop :=
  ∀ s : State, s.constructed = false → s.params.valid → s.mem.wf = true →
    ∃ t, exec .construct s = .next t ∧ t.inv

/-! ### Reads -/

/-- R180, R182, R184, R186, R188, R190: what the control and status registers read as; no state changes. -/
def Obligations.ControlRegisterReads : Prop :=
  ∀ s : State, s.constructed = true →
    exec .rdHcRevision s = .next { s with out := [.readData 0x00000010#32] }
      ∧ exec .rdHcControl s = .next { s with out := [.readData s.hcControl] }
      ∧ exec .rdHcCommandStatus s = .next { s with out := [.readData s.hcCommandStatus] }
      ∧ exec .rdHcInterruptStatus s = .next { s with out := [.readData s.hcInterruptStatus] }
      ∧ exec .rdHcInterruptEnable s = .next { s with out := [.readData s.hcInterrupt] }
      ∧ exec .rdHcInterruptDisable s = .next { s with out := [.readData s.hcInterrupt] }

/-- R220, R222, R224, R226, R228, R230, R232: what the memory pointer registers read as; no state changes. -/
def Obligations.PointerRegisterReads : Prop :=
  ∀ s : State, s.constructed = true →
    exec .rdHcHCCA s = .next { s with out := [.readData s.hcHCCA] }
      ∧ exec .rdHcPeriodCurrentED s = .next { s with out := [.readData s.hcPeriodCurrentED] }
      ∧ exec .rdHcControlHeadED s = .next { s with out := [.readData s.hcControlHeadED] }
      ∧ exec .rdHcControlCurrentED s = .next { s with out := [.readData s.hcControlCurrentED] }
      ∧ exec .rdHcBulkHeadED s = .next { s with out := [.readData s.hcBulkHeadED] }
      ∧ exec .rdHcBulkCurrentED s = .next { s with out := [.readData s.hcBulkCurrentED] }
      ∧ exec .rdHcDoneHead s = .next { s with out := [.readData s.hcDoneHead] }

/-- R240, R244, R246, R248, R270, R272: what the frame registers but HcFmRemaining, and the descriptors, read as; no state
changes. -/
def Obligations.FrameAndDescriptorReads : Prop :=
  ∀ s : State, s.constructed = true →
    exec .rdHcFmInterval s = .next { s with out := [.readData s.hcFmInterval] }
      ∧ exec .rdHcFmNumber s = .next { s with out := [.readData (s.hcFmNumber &&& 0x0000FFFF#32)] }
      ∧ exec .rdHcPeriodicStart s = .next { s with out := [.readData s.hcPeriodicStart] }
      ∧ exec .rdHcLSThreshold s = .next { s with out := [.readData s.hcLSThreshold] }
      ∧ exec .rdHcRhDescriptorA s = .next { s with out := [.readData s.params.rhdaInit] }
      ∧ exec .rdHcRhDescriptorB s = .next { s with out := [.readData s.params.rhdbInit] }

/-- R242, R251: HcFmRemaining reads as the live countdown while Operational, which stops at 0 and keeps the stored toggle,
and as stored otherwise. -/
def Obligations.FmRemainingReadsLiveCountdown : Prop :=
  ∀ s : State, s.constructed = true →
    ∃ w : Word, exec .rdHcFmRemaining s = .next { s with out := [.readData w] }
      ∧ (s.hcControl.extractLsb' 6 2 ≠ 2#2 → w = s.hcFmRemaining)
      ∧ (s.hcControl.extractLsb' 6 2 = 2#2 →
          w.extractLsb' 0 14 = BitVec.ofNat 14
              ((s.hcFmRemaining.extractLsb' 0 14).toNat - (s.now - s.sofTime) / s.params.ticksPerUsbTick)
            ∧ w.getLsbD 31 = s.hcFmRemaining.getLsbD 31
            ∧ w.extractLsb' 14 17 = 0#17)

/-- R274, R61, R276, R278: each bit HcRhStatus and the port registers read as; no state changes. -/
def Obligations.RootHubReads : Prop :=
  ∀ s : State, s.constructed = true →
    (∃ w : Word, exec .rdHcRhStatus s = .next { s with out := [.readData w] }
        ∧ ∀ i, w.getLsbD i = ((i == 1 || i == 15 || i == 17) && s.hcRhStatus.getLsbD i))
      ∧ ∀ p : PortNo, ∃ w : Word,
        exec (match p with | .one => .rdHcRhPortStatus1 | .two => .rdHcRhPortStatus2) s
            = .next { s with out := [.readData w] }
          ∧ (w.getLsbD 0 = (s.port p).ccs ∧ w.getLsbD 1 = (s.port p).pes ∧ w.getLsbD 2 = (s.port p).pss
            ∧ w.getLsbD 3 = (s.port p).poci ∧ w.getLsbD 4 = (s.port p).prs ∧ w.getLsbD 8 = (s.port p).pps
            ∧ w.getLsbD 9 = (s.port p).lsda ∧ w.getLsbD 16 = (s.port p).csc ∧ w.getLsbD 17 = (s.port p).pesc
            ∧ w.getLsbD 18 = (s.port p).pssc ∧ w.getLsbD 19 = (s.port p).ocic ∧ w.getLsbD 20 = (s.port p).prsc)
          ∧ w &&& ~~~0x001F031F#32 = 0#32

/-- R108: a read changes no state and hands out one value. -/
def Obligations.ReadsChangeNoState : Prop :=
  ∀ (i : Instr) (s t : State), isRead i = true → exec i s = .next t →
    ∃ v : Word, t = { s with out := [.readData v] }

/-! ### Accesses that name no register, are misaligned or are refused -/

/-- R162, R163, R164: an aligned access that names no register and a misaligned access return 0 and change no state, a read
in any state, a write where R78 holds. -/
def Obligations.ToleratedAccessesDoNothing : Prop :=
  ∀ (s : State) (w : WordIndex) (v : Word), s.constructed = true →
    ((4 * w.toNat < s.params.windowSize → exec (.rdUnmapped w) s = .next { s with out := [.readData 0#32] })
        ∧ (4 * w.toNat + 1 < s.params.windowSize → exec (.rdMisaligned1 w) s = .next { s with out := [.readData 0#32] })
        ∧ (4 * w.toNat + 2 < s.params.windowSize → exec (.rdMisaligned2 w) s = .next { s with out := [.readData 0#32] })
        ∧ (4 * w.toNat + 3 < s.params.windowSize → exec (.rdMisaligned3 w) s = .next { s with out := [.readData 0#32] }))
      ∧ (s.lineSettled →
        (4 * w.toNat < s.params.windowSize → exec (.wrUnmapped w v) s = .next { s with out := [] })
          ∧ (4 * w.toNat + 1 < s.params.windowSize → exec (.wrMisaligned1 w v) s = .next { s with out := [] })
          ∧ (4 * w.toNat + 2 < s.params.windowSize → exec (.wrMisaligned2 w v) s = .next { s with out := [] })
          ∧ (4 * w.toNat + 3 < s.params.windowSize → exec (.wrMisaligned3 w v) s = .next { s with out := [] }))

/-- R101: an offset at or above WINDOW_SIZE never reaches the block. That the model stops there, and under which name, is
its own choice (log 9). -/
def Obligations.OutsideTheWindowNothingRuns : Prop :=
  ∀ (s : State) (w : WordIndex) (v : Word), s.constructed = true → s.params.windowSize ≤ 4 * w.toNat →
    exec (.rdUnmapped w) s = .fault .outsideWindow
      ∧ exec (.wrUnmapped w v) s = .fault .outsideWindow
      ∧ exec (.rdMisaligned1 w) s = .fault .outsideWindow
      ∧ exec (.rdMisaligned2 w) s = .fault .outsideWindow
      ∧ exec (.rdMisaligned3 w) s = .fault .outsideWindow
      ∧ exec (.wrMisaligned1 w v) s = .fault .outsideWindow
      ∧ exec (.wrMisaligned2 w v) s = .fault .outsideWindow
      ∧ exec (.wrMisaligned3 w v) s = .fault .outsideWindow

/-- R104, R132, R165: the widths other than 32 bits, the reserved class and the reserved events are refused, each for its
reason, in every state. -/
def Obligations.RefusedFormsStop : Prop :=
  ∀ (s : State) (o : Offset) (code : BitVec 14),
    exec (.rd8 o) s = .refused .subWordAccess
      ∧ exec (.rd16 o) s = .refused .subWordAccess
      ∧ exec (.rd64 o) s = .refused .wideAccess
      ∧ exec (.wr8 o) s = .refused .subWordAccess
      ∧ exec (.wr16 o) s = .refused .subWordAccess
      ∧ exec (.wr64 o) s = .refused .wideAccess
      ∧ exec (.reservedClass code) s = .refused .reservedClass
      ∧ exec (.reservedEvent code) s = .refused .reservedEvent

/-! ### Writes of plain registers -/

/-- R181, R243, R245, R271, R273: writes of read-only registers change nothing. -/
def Obligations.ReadOnlyWritesSkip : Prop :=
  ∀ (s : State) (v : Word), s.constructed = true → s.lineSettled →
    exec (.wrHcRevision v) s = .next { s with out := [] }
      ∧ exec (.wrHcFmRemaining v) s = .next { s with out := [] }
      ∧ exec (.wrHcFmNumber v) s = .next { s with out := [] }
      ∧ exec (.wrHcRhDescriptorA v) s = .next { s with out := [] }
      ∧ exec (.wrHcRhDescriptorB v) s = .next { s with out := [] }

/-- R221, R223, R225, R227, R229, R231, R233, R247, R249: masked stores; nothing else changes and nothing is pushed. -/
def Obligations.MaskedStores : Prop :=
  ∀ (s : State) (v : Word), s.constructed = true → s.lineSettled →
    exec (.wrHcHCCA v) s = .next { s with hcHCCA := v &&& 0xFFFFFF00#32, out := [] }
      ∧ exec (.wrHcPeriodCurrentED v) s = .next { s with hcPeriodCurrentED := v &&& 0xFFFFFFF0#32, out := [] }
      ∧ exec (.wrHcControlHeadED v) s = .next { s with hcControlHeadED := v &&& 0xFFFFFFF0#32, out := [] }
      ∧ exec (.wrHcControlCurrentED v) s = .next { s with hcControlCurrentED := v &&& 0xFFFFFFF0#32, out := [] }
      ∧ exec (.wrHcBulkHeadED v) s = .next { s with hcBulkHeadED := v &&& 0xFFFFFFF0#32, out := [] }
      ∧ exec (.wrHcBulkCurrentED v) s = .next { s with hcBulkCurrentED := v &&& 0xFFFFFFF0#32, out := [] }
      ∧ exec (.wrHcDoneHead v) s = .next { s with hcDoneHead := v &&& 0xFFFFFFF0#32, out := [] }
      ∧ exec (.wrHcPeriodicStart v) s = .next { s with hcPeriodicStart := v &&& 0x00003FFF#32, out := [] }
      ∧ exec (.wrHcLSThreshold v) s = .next { s with hcLSThreshold := v &&& 0x00000FFF#32, out := [] }

/-- R241: a write of HcFmInterval stores the masked value, notes a change of FIT and recomputes the cached frame time from
the new FI; the armed timer and the countdown are left alone. -/
def Obligations.FmIntervalWrite : Prop :=
  ∀ (s : State) (v : Word), s.constructed = true → s.lineSettled →
    exec (.wrHcFmInterval v) s = .next
      { s with
        hcFmInterval := v &&& 0xFFFF3FFF#32
        fiPending := s.fiPending || (v.getLsbD 31 != s.hcFmInterval.getLsbD 31)
        usbFrameTime := max ((v.extractLsb' 0 14).toNat + 1) s.params.frameLenMin * s.params.ticksPerUsbTick
        out := [] }

/-- R74: the frame-time function, at least one tick for admitted parameters. -/
def Obligations.FrameTimeFormula : Prop :=
  ∀ (P : Params) (fi : BitVec 14),
    frameLen P fi = max (fi.toNat + 1) P.frameLenMin
      ∧ frameTime P fi = frameLen P fi * P.ticksPerUsbTick
      ∧ (P.valid → 1 ≤ frameTime P fi)

/-- R168: the round-trip law as the spec scopes it. -/
def Obligations.RoundTripLaw : Prop :=
  ∀ (s : State) (v : Word), s.constructed = true → s.registersInv →
    (∀ c : (Word → Instr) × Instr × Word,
      c ∈ ([(.wrHcHCCA, .rdHcHCCA, 0xFFFFFF00#32), (.wrHcPeriodCurrentED, .rdHcPeriodCurrentED, 0xFFFFFFF0#32),
            (.wrHcControlHeadED, .rdHcControlHeadED, 0xFFFFFFF0#32),
            (.wrHcControlCurrentED, .rdHcControlCurrentED, 0xFFFFFFF0#32),
            (.wrHcBulkHeadED, .rdHcBulkHeadED, 0xFFFFFFF0#32),
            (.wrHcBulkCurrentED, .rdHcBulkCurrentED, 0xFFFFFFF0#32), (.wrHcDoneHead, .rdHcDoneHead, 0xFFFFFFF0#32),
            (.wrHcFmInterval, .rdHcFmInterval, 0xFFFF3FFF#32),
            (.wrHcPeriodicStart, .rdHcPeriodicStart, 0x00003FFF#32),
            (.wrHcLSThreshold, .rdHcLSThreshold, 0x00000FFF#32)] : List ((Word → Instr) × Instr × Word)) →
        ∃ a b, exec (c.1 v) s = .next a ∧ exec c.2.1 a = .next b ∧ b.readResult = some (v &&& c.2.2))
      ∧ (∃ a b, exec (.wrHcInterruptStatus v) s = .next a ∧ exec .rdHcInterruptStatus a = .next b
          ∧ b.readResult = some (s.hcInterruptStatus &&& ~~~v))
      ∧ (resets (.wrHcControl v) s = false →
          ∃ a b, exec (.wrHcControl v) s = .next a ∧ exec .rdHcControl a = .next b
            ∧ b.readResult = some (v &&& 0x000007FF#32))

/-! ### Interrupt registers and the line -/

/-- R400: the level is MIE together with an enabled status bit that is set; it depends on nothing else. -/
def Obligations.IntLevelIsEnabledPending : Prop :=
  ∀ s : State, s.intLevel = true ↔
    s.hcInterrupt.getLsbD 31 = true
      ∧ ∃ i : Nat, (i ≤ 6 ∨ i = 30) ∧ s.hcInterrupt.getLsbD i = true ∧ s.hcInterruptStatus.getLsbD i = true

/-- R187, R189, R191, R401: the writes of the interrupt registers, the line they leave and the push they make. -/
def Obligations.InterruptRegisterWrites : Prop :=
  ∀ (s : State) (v : Word), s.constructed = true →
    exec (.wrHcInterruptStatus v) s = .next
        { s with
          hcInterruptStatus := s.hcInterruptStatus &&& ~~~(v &&& 0x4000007F#32)
          irqLevel := levelOf s.hcInterrupt (s.hcInterruptStatus &&& ~~~(v &&& 0x4000007F#32))
          out := pushIfNew s.params.irqNum s.irqLevel
            (levelOf s.hcInterrupt (s.hcInterruptStatus &&& ~~~(v &&& 0x4000007F#32))) }
      ∧ exec (.wrHcInterruptEnable v) s = .next
        { s with
          hcInterrupt := s.hcInterrupt ||| (v &&& 0xC000007F#32)
          irqLevel := levelOf (s.hcInterrupt ||| (v &&& 0xC000007F#32)) s.hcInterruptStatus
          out := pushIfNew s.params.irqNum s.irqLevel
            (levelOf (s.hcInterrupt ||| (v &&& 0xC000007F#32)) s.hcInterruptStatus) }
      ∧ exec (.wrHcInterruptDisable v) s = .next
        { s with
          hcInterrupt := s.hcInterrupt &&& ~~~(v &&& 0xC000007F#32)
          irqLevel := levelOf (s.hcInterrupt &&& ~~~(v &&& 0xC000007F#32)) s.hcInterruptStatus
          out := pushIfNew s.params.irqNum s.irqLevel
            (levelOf (s.hcInterrupt &&& ~~~(v &&& 0xC000007F#32)) s.hcInterruptStatus) }

/-- R407: with an enabled status bit pending, setting MIE asserts the line and clearing it deasserts the line, and nothing
else changes; with MIE clear a frame boundary sets SF and leaves the line deasserted. -/
def Obligations.MasterEnableFlipsTheLine : Prop :=
  ∀ (s : State) (i : Nat), s.constructed = true → s.lineSettled → (i ≤ 6 ∨ i = 30) →
    s.hcInterrupt.getLsbD i = true → s.hcInterruptStatus.getLsbD i = true →
    (s.hcInterrupt.getLsbD 31 = false →
        exec (.wrHcInterruptEnable 0x80000000#32) s = .next
          { s with hcInterrupt := s.hcInterrupt ||| 0x80000000#32, irqLevel := true, out := [.irqAssert s.params.irqNum] }
        ∧ ∀ lr t, exec (.fire lr) s = .next t → t.irqLevel = false ∧ t.hcInterruptStatus.getLsbD 2 = true)
      ∧ (s.hcInterrupt.getLsbD 31 = true →
        exec (.wrHcInterruptDisable 0x80000000#32) s = .next
          { s with
            hcInterrupt := s.hcInterrupt &&& 0x7FFFFFFF#32
            irqLevel := false
            out := [.irqDeassert s.params.irqNum] })

/-- R401: the pushes of every step are changes of level only (never an Assert while asserted, never a Deassert while
deasserted), and they end at the level the state records. -/
def Obligations.PushesAreChangesOnly : Prop :=
  ∀ (i : Instr) (s t : State), s.constructed = true → exec i s = .next t →
    lineAfter s.irqLevel t.out = some t.irqLevel

/-- R402: the inner line updates of a step may be dropped. From a settled state, whatever port changes and status gains come
before the step's final update, in any order and number, the result is the same with the update inside every SetInterrupt
and with none of them; and RaiseChange is such an act. -/
def Obligations.InnerLineUpdateMayBeDropped : Prop :=
  (∀ (s : State) (acts : List PortAct), s.lineSettled →
      updateInterrupt (acts.foldl PortAct.runWithUpdate s) = updateInterrupt (acts.foldl PortAct.runWithoutUpdate s))
    ∧ ∀ (s : State) (p : PortNo) (b : ChangeBit), raiseChange p b s = PortAct.runWithUpdate s (PortAct.raise p b)

/-- R37, R403: the sources of the status bits, and what clears them. RD, FNO and OC are never set; a bit that is set stays
so until a write of 1 to it at HcInterruptStatus or the Reset procedure. -/
def Obligations.StatusBitSources : Prop :=
  ∀ (i : Instr) (s t : State) (k : Nat), s.constructed = true → exec i s = .next t →
    (s.hcInterruptStatus.getLsbD k = false → t.hcInterruptStatus.getLsbD k = true →
      (k = 0 ∧ ∃ lr : LR, i = .fire lr ∧ lr.overrun = true)
        ∨ (k = 1 ∧ ∃ lr : LR, i = .fire lr ∧ lr.done.isSome = true)
        ∨ (k = 2 ∧ ∃ lr : LR, i = .fire lr)
        ∨ (k = 4 ∧ ∃ lr : LR, i = .fire lr ∧ lr.error = true)
        ∨ (k = 6 ∧ ((∃ v, i = .wrHcRhPortStatus1 v) ∨ (∃ v, i = .wrHcRhPortStatus2 v)
            ∨ (∃ p l, i = .attach p l) ∨ (∃ p, i = .detach p) ∨ ∃ p, i = .prdone p)))
      ∧ (s.hcInterruptStatus.getLsbD k = true → t.hcInterruptStatus.getLsbD k = false →
        (∃ v : Word, i = .wrHcInterruptStatus v ∧ v.getLsbD k = true) ∨ resets i s = true)

/-- R404: the enables change only at the two enable ports, and by the Reset procedure, which zeroes them. -/
def Obligations.EnablesChangeOnlyAtTheirPorts : Prop :=
  ∀ (i : Instr) (s t : State), s.constructed = true → exec i s = .next t → t.hcInterrupt ≠ s.hcInterrupt →
    (∃ v, i = .wrHcInterruptEnable v) ∨ (∃ v, i = .wrHcInterruptDisable v)
      ∨ (resets i s = true ∧ t.hcInterrupt = 0#32)

/-! ### The command register and the state machine -/

/-- R185 without HCR: the written bits are set, SOC cannot be written. -/
def Obligations.CommandBitsAreSet : Prop :=
  ∀ (s : State) (v : Word), s.constructed = true → s.lineSettled → v.getLsbD 0 = false →
    exec (.wrHcCommandStatus v) s = .next
      { s with hcCommandStatus := s.hcCommandStatus ||| (v &&& 0x0000000E#32), out := [] }

/-- R185, R329, R324, R81: HCR gives, from every state, the state of the table of R81, with the timer told to disarm and
the line deasserted. -/
def Obligations.HcrGivesResetValues : Prop :=
  ∀ (s : State) (v : Word), s.constructed = true → v.getLsbD 0 = true →
    exec (.wrHcCommandStatus v) s = .next
      { s.resetValues with out := .disarm :: pushIfNew s.params.irqNum s.irqLevel false }

/-- R183, R321, R325, R326, R327: a write of HcControl is a plain store where HCFS stays as it is, and where it moves to
Suspend or Resume from a state other than Operational. -/
def Obligations.ControlWriteStoresOnly : Prop :=
  ∀ (s : State) (v : Word), s.constructed = true → s.lineSettled →
    (v.extractLsb' 6 2 = s.hcControl.extractLsb' 6 2
      ∨ (s.hcControl.extractLsb' 6 2 ≠ 2#2 ∧ (v.extractLsb' 6 2 = 1#2 ∨ v.extractLsb' 6 2 = 3#2))) →
    exec (.wrHcControl v) s = .next { s with hcControl := v &&& 0x000007FF#32, out := [] }

/-- R323, R325: entering Operational from any other state. -/
def Obligations.EnteringOperational : Prop :=
  ∀ (s : State) (v : Word), s.constructed = true → s.lineSettled →
    s.hcControl.extractLsb' 6 2 ≠ 2#2 → v.extractLsb' 6 2 = 2#2 →
    exec (.wrHcControl v) s = .next
      { s with
        hcControl := v &&& 0x000007FF#32
        sofTime := s.now
        hcFmRemaining := s.hcFmInterval &&& 0x80003FFF#32
        timerArmed := true
        timerDeadline := s.now + s.usbFrameTime
        out := [.arm s.usbFrameTime] }

/-- R322, R325: leaving Operational for Suspend or Resume freezes the countdown and disarms the timer; nothing else
changes. -/
def Obligations.LeavingOperational : Prop :=
  ∀ (s : State) (v : Word), s.constructed = true → s.lineSettled →
    s.hcControl.extractLsb' 6 2 = 2#2 → (v.extractLsb' 6 2 = 1#2 ∨ v.extractLsb' 6 2 = 3#2) →
    exec (.wrHcControl v) s = .next
      { s with
        hcControl := v &&& 0x000007FF#32
        hcFmRemaining := (s.hcFmRemaining &&& 0x80000000#32) |||
          BitVec.ofNat 32
            ((s.hcFmRemaining.extractLsb' 0 14).toNat - (s.now - s.sofTime) / s.params.ticksPerUsbTick)
        timerArmed := false
        out := [.disarm] }

/-- R183, R324, R325: a transition into Reset gives the state of the table of R81; the other bits written are lost. -/
def Obligations.ControlWriteIntoReset : Prop :=
  ∀ (s : State) (v : Word), s.constructed = true → s.hcControl.extractLsb' 6 2 ≠ 0#2 → v.extractLsb' 6 2 = 0#2 →
    exec (.wrHcControl v) s = .next
      { s.resetValues with
        out := (if s.hcControl.extractLsb' 6 2 = 2#2 then [.disarm, .disarm] else [.disarm])
          ++ pushIfNew s.params.irqNum s.irqLevel false }

/-- R320: HCFS changes only by a write of HcControl and by HCR, which makes it Reset; no event changes it. -/
def Obligations.StateChangesOnlyByTheGuest : Prop :=
  ∀ (i : Instr) (s t : State), s.constructed = true → exec i s = .next t → t.hcfs ≠ s.hcfs →
    (∃ v, i = .wrHcControl v) ∨ ((∃ v : Word, i = .wrHcCommandStatus v ∧ v.getLsbD 0 = true) ∧ t.hcfs = .reset)

/-- R443: a transition from Operational into Reset restores every register and port field to its value after construction,
but for CCS and LSDA (and the fields no rule reads then); a second reset changes nothing. -/
def Obligations.ResetIsIdempotent : Prop :=
  ∀ (s b c : State) (v : Word), s.constructed = true → s.hcfs = .operational → v.extractLsb' 6 2 = 0#2 →
    exec (.wrHcControl v) s = .next b → exec .construct { s with constructed := false } = .next c →
    { b with
        sofTime := 0
        timerDeadline := 0
        out := []
        port1 := { b.port1 with ccs := false, lsda := false, resetDue := 0 }
        port2 := { b.port2 with ccs := false, lsda := false, resetDue := 0 } } = c
      ∧ exec (.wrHcControl 0#32) b = .next { b with out := [] }
      ∧ exec (.wrHcCommandStatus 1#32) b = .next { b with out := [.disarm] }

/-! ### The frame timer -/

/-- R351 to R354, R358: a fire with no list enabled. The answer is not used. `mem` records the write (log 4). -/
def Obligations.FireWithListsDisabled : Prop :=
  ∀ (s : State) (lr : LR), s.constructed = true → s.timerArmed = true → s.timerDeadline ≤ s.now →
    s.hcControl &&& 0x0000003C#32 = 0#32 →
    exec (.fire lr) s = .next
      { s with
        hcFmNumber := (s.hcFmNumber &&& 0xFFFF0000#32) ||| ((s.hcFmNumber + 1#32) &&& 0x0000FFFF#32)
        mem := s.mem.writeLE (s.hcHCCA + 0x80#32) 4 ((s.hcFmNumber + 1#32) &&& 0x0000FFFF#32)
        hcInterruptStatus := s.hcInterruptStatus ||| 0x00000004#32
        hcFmRemaining := s.hcFmInterval &&& 0x80003FFF#32
        fiPending := false
        sofTime := s.now
        timerDeadline := s.now + s.usbFrameTime
        irqLevel := levelOf s.hcInterrupt (s.hcInterruptStatus ||| 0x00000004#32)
        out := [.memWrite (s.hcHCCA + 0x80#32) 4 ((s.hcFmNumber + 1#32) &&& 0x0000FFFF#32), .arm s.usbFrameTime]
          ++ pushIfNew s.params.irqNum s.irqLevel (levelOf s.hcInterrupt (s.hcInterruptStatus ||| 0x00000004#32)) }

/-- R351 to R358: what a fire with a list enabled leaves, field by field, and that it leaves all else. -/
def Obligations.FireWithListsEnabled : Prop :=
  ∀ (s : State) (lr : LR), s.constructed = true → s.timerArmed = true → s.timerDeadline ≤ s.now →
    s.hcControl &&& 0x0000003C#32 ≠ 0#32 →
    ∃ t, exec (.fire lr) s = .next t
      ∧ t.hcFmNumber = (s.hcFmNumber &&& 0xFFFF0000#32) ||| ((s.hcFmNumber + 1#32) &&& 0x0000FFFF#32)
      ∧ (t.hcCommandStatus.extractLsb' 16 2 = s.hcCommandStatus.extractLsb' 16 2 + (if lr.overrun then 1#2 else 0#2)
        ∧ t.hcCommandStatus.getLsbD 1 = (s.hcCommandStatus.getLsbD 1 && !lr.clearCLF)
        ∧ t.hcCommandStatus.getLsbD 2 = (s.hcCommandStatus.getLsbD 2 && !lr.clearBLF)
        ∧ t.hcCommandStatus &&& ~~~0x00030006#32 = s.hcCommandStatus &&& ~~~0x00030006#32)
      ∧ t.hcInterruptStatus = s.hcInterruptStatus ||| 0x00000004#32
          ||| (if lr.overrun then 0x00000001#32 else 0#32) ||| (if lr.error then 0x00000010#32 else 0#32)
          ||| (if lr.done.isSome then 0x00000002#32 else 0#32)
      ∧ t.hcPeriodCurrentED = (match lr.periodCur with | some a => a &&& 0xFFFFFFF0#32 | none => s.hcPeriodCurrentED)
      ∧ t.hcControlCurrentED = (match lr.controlCur with | some a => a &&& 0xFFFFFFF0#32 | none => s.hcControlCurrentED)
      ∧ t.hcBulkCurrentED = (match lr.bulkCur with | some a => a &&& 0xFFFFFFF0#32 | none => s.hcBulkCurrentED)
      ∧ t.hcDoneHead = (match lr.done with | some d => d &&& 0xFFFFFFF0#32 | none => s.hcDoneHead)
      ∧ t.irqLevel = levelOf s.hcInterrupt t.hcInterruptStatus
      ∧ { t with
            hcFmNumber := s.hcFmNumber
            hcCommandStatus := s.hcCommandStatus
            hcInterruptStatus := s.hcInterruptStatus
            hcPeriodCurrentED := s.hcPeriodCurrentED
            hcControlCurrentED := s.hcControlCurrentED
            hcBulkCurrentED := s.hcBulkCurrentED
            hcDoneHead := s.hcDoneHead
            irqLevel := s.irqLevel
            mem := s.mem
            out := s.out } =
          { s with
            hcFmRemaining := s.hcFmInterval &&& 0x80003FFF#32
            fiPending := false
            sofTime := s.now
            timerDeadline := s.now + s.usbFrameTime }

/-- R106, R352, R357: the two writes of a fire, little-endian, the frame number with a zero pad to HCCA + 0x80 and a done
head that counts to HCCA + 0x84. That the written bytes stand in `mem` after the step, which R107 leaves to the
collaborator, and that the address of each byte of a write wraps at 2^32, where the rules wrap the first, are the model's
own (log 4). Every other byte is unchanged. -/
def Obligations.FireWritesTheHcca : Prop :=
  ∀ (s t : State) (lr : LR), exec (.fire lr) s = .next t →
    (∀ k < 4, t.mem.get (s.hcHCCA + 0x80#32 + BitVec.ofNat 32 k).toNat
        = some ((((s.hcFmNumber + 1#32) &&& 0x0000FFFF#32) >>> (8 * k)).setWidth 8))
      ∧ (∀ d, lr.done = some d → s.hcControl &&& 0x0000003C#32 ≠ 0#32 →
        ∀ k < 4, t.mem.get (s.hcHCCA + 0x84#32 + BitVec.ofNat 32 k).toNat
          = some (((d &&& 0xFFFFFFF0#32) >>> (8 * k)).setWidth 8))
      ∧ ∀ a : Nat,
        (∀ k < 4, a ≠ (s.hcHCCA + 0x80#32 + BitVec.ofNat 32 k).toNat) →
        ((lr.done = none ∨ s.hcControl &&& 0x0000003C#32 = 0#32)
          ∨ ∀ k < 4, a ≠ (s.hcHCCA + 0x84#32 + BitVec.ofNat 32 k).toNat) →
        t.mem.get a = s.mem.get a

/-- R355, R356, R401: what a fire hands out, in order: the frame number, the question to the list collaborator with the
context of R355, the done head, the re-arming, and at most one push. -/
def Obligations.FireOutputsInOrder : Prop :=
  ∀ (s t : State) (lr : LR), exec (.fire lr) s = .next t →
    t.out = [.memWrite (s.hcHCCA + 0x80#32) 4 ((s.hcFmNumber + 1#32) &&& 0x0000FFFF#32)]
      ++ (if s.hcControl &&& 0x0000003C#32 = 0#32 then [] else
          [.listProc
            { control := s.hcControl, command := s.hcCommandStatus, hcca := s.hcHCCA,
              periodCur := s.hcPeriodCurrentED, controlHead := s.hcControlHeadED,
              controlCur := s.hcControlCurrentED, bulkHead := s.hcBulkHeadED, bulkCur := s.hcBulkCurrentED,
              fmNumber := t.hcFmNumber, fmInterval := s.hcFmInterval, periodicStart := s.hcPeriodicStart,
              lsThreshold := s.hcLSThreshold, periodicEnable := s.hcControl.getLsbD 2,
              isochronousEnable := s.hcControl.getLsbD 3, controlEnable := s.hcControl.getLsbD 4,
              bulkEnable := s.hcControl.getLsbD 5 }]
          ++ (match lr.done with
              | some d => [.memWrite (s.hcHCCA + 0x84#32) 4 (d &&& 0xFFFFFFF0#32)]
              | none => []))
      ++ [.arm s.usbFrameTime]
      ++ pushIfNew s.params.irqNum s.irqLevel t.irqLevel

/-- R384, R350, R382: a fire or a port-reset completion that is not enabled has no step. -/
def Obligations.NotEnabledEventsAreStuck : Prop :=
  ∀ (s : State), s.constructed = true →
    (∀ lr, ¬(s.timerArmed = true ∧ s.timerDeadline ≤ s.now) → exec (.fire lr) s = .fault .timerFireNotEnabled)
      ∧ (¬(s.port1.prs = true ∧ s.port1.resetDue ≤ s.now) → exec (.prdone 1) s = .fault .portResetDoneNotEnabled)
      ∧ (¬(s.port2.prs = true ∧ s.port2.resetDue ≤ s.now) → exec (.prdone 2) s = .fault .portResetDoneNotEnabled)

/-- R422, R77: SOF generation occurs only in Operational: with the invariants, a fire is taken in no other state. -/
def Obligations.FramesOnlyWhileOperational : Prop :=
  ∀ (s t : State) (lr : LR), s.inv → exec (.fire lr) s = .next t → s.hcfs = .operational ∧ t.hcfs = .operational

/-- R362: a change of HcFmInterval between two fires changes the frame after the current one. -/
def Obligations.FrameIntervalChangeIsDeferred : Prop :=
  ∀ (s a b : State) (v : Word) (lr : LR) (n : Nat),
    exec (.wrHcFmInterval v) s = .next a → exec (.fire lr) { a with now := n } = .next b →
    (a.timerArmed = s.timerArmed ∧ a.timerDeadline = s.timerDeadline ∧ a.hcFmRemaining = s.hcFmRemaining)
      ∧ b.timerDeadline =
          n + max ((v.extractLsb' 0 14).toNat + 1) s.params.frameLenMin * s.params.ticksPerUsbTick
      ∧ b.hcFmRemaining = v &&& 0x80003FFF#32

/-- R359: the block arms the timer only at a fire and on entering Operational, and disarms it only on leaving Operational
and in the Reset procedure. -/
def Obligations.ArmingAndDisarming : Prop :=
  ∀ (i : Instr) (s t : State), s.constructed = true → exec i s = .next t →
    ((∃ d, .arm d ∈ t.out) →
        (∃ lr, i = .fire lr) ∨ ∃ v, i = .wrHcControl v ∧ s.hcfs ≠ .operational ∧ t.hcfs = .operational)
      ∧ (.disarm ∈ t.out →
        (∃ v, i = .wrHcControl v ∧ s.hcfs = .operational ∧ t.hcfs ≠ .operational) ∨ resets i s = true)

/-- R352, R354 (the frame-counting property of the spec's section E4): N frames advance FN by N modulo 2^16 and reload the
countdown from HcFmInterval. -/
def Obligations.FramesAreCounted : Prop :=
  ∀ (l : List (Nat × LR)) (s t : State), frames l s = some t →
    t.hcFmNumber.extractLsb' 0 16 = s.hcFmNumber.extractLsb' 0 16 + BitVec.ofNat 16 l.length
      ∧ t.hcFmInterval = s.hcFmInterval
      ∧ t.hcfs = s.hcfs
      ∧ (l ≠ [] → t.hcFmRemaining = s.hcFmInterval &&& 0x80003FFF#32 ∧ t.hcInterruptStatus.getLsbD 2 = true)

/-- R351, R358, R360, R362: the frame clock never stalls. An armed controller takes frame after frame, whatever the list
collaborator answers and whatever its armed deadline is, as long as time reaches that deadline before the first fire and one
frame time passes before each later one. -/
def Obligations.FrameClockNeverStalls : Prop :=
  ∀ (l : List (Nat × LR)) (s : State), s.constructed = true → s.timerArmed = true →
    (∀ f ∈ l, 1 ≤ f.1) →
    (∀ f ∈ l.head?, s.timerDeadline ≤ s.now + f.1) →
    (∀ f ∈ l.tail, s.usbFrameTime ≤ f.1) →
    ∃ t, frames l s = some t ∧ t.timerArmed = true

/-- R43, R106, R324, R352: the bytes the block has written to guest memory (log 4) change only at a fire, and FN only at a
fire and in the Reset procedure. -/
def Obligations.MemoryAndFrameNumberChangeOnlyAtFires : Prop :=
  ∀ (i : Instr) (s t : State), s.constructed = true → exec i s = .next t →
    (t.mem ≠ s.mem → ∃ lr, i = .fire lr)
      ∧ (t.hcFmNumber ≠ s.hcFmNumber → (∃ lr, i = .fire lr) ∨ (resets i s = true ∧ t.hcFmNumber = 0#32))

/-! ### The root hub -/

/-- R275, R285, R286: a write of HcRhStatus, for every value written. -/
def Obligations.RhStatusWrite : Prop :=
  ∀ (s : State) (v : Word), s.constructed = true → s.lineSettled →
    ∃ t, exec (.wrHcRhStatus v) s = .next t
      ∧ (t.hcRhStatus.getLsbD 15 = ((s.hcRhStatus.getLsbD 15 || v.getLsbD 15) && !v.getLsbD 31)
        ∧ t.hcRhStatus.getLsbD 17 = (s.hcRhStatus.getLsbD 17 && !v.getLsbD 17)
        ∧ t.hcRhStatus &&& ~~~0x00028000#32 = s.hcRhStatus &&& ~~~0x00028000#32)
      ∧ (∀ p, t.port p = powerResult s.params.nps (v.getLsbD 0) (v.getLsbD 16) (s.port p))
      ∧ { t with hcRhStatus := s.hcRhStatus, port1 := s.port1, port2 := s.port2 } = { s with out := [] }

/-- R280 to R284: a write of a port register, for every value written and every port: the port's record, RHSC, the line and
its push; nothing else changes. -/
def Obligations.PortStatusWrite : Prop :=
  ∀ (s : State) (v : Word) (p : PortNo), s.constructed = true → s.lineSettled →
    ∃ t, exec (match p with | .one => .wrHcRhPortStatus1 v | .two => .wrHcRhPortStatus2 v) s = .next t
      ∧ t.port p = powerResult s.params.nps (v.getLsbD 9) (v.getLsbD 8)
          (portWriteCommands v (s.now + s.params.portResetTicks) (s.port p))
      ∧ (∀ q, q ≠ p → t.port q = s.port q)
      ∧ t.hcInterruptStatus = (if portWriteRaises v (s.port p) then s.hcInterruptStatus ||| 0x00000040#32
          else s.hcInterruptStatus)
      ∧ t.irqLevel = levelOf s.hcInterrupt t.hcInterruptStatus
      ∧ t.out = pushIfNew s.params.irqNum s.irqLevel t.irqLevel
      ∧ { t with
            port1 := s.port1
            port2 := s.port2
            hcInterruptStatus := s.hcInterruptStatus
            irqLevel := s.irqLevel
            out := s.out } = s

/-- R380: attaching a device. -/
def Obligations.AttachResult : Prop :=
  ∀ (s : State) (n : Nat) (p : PortNo) (lowSpeed : Bool), s.constructed = true → s.lineSettled →
    ((n = 1 ∧ p = .one) ∨ (n = 2 ∧ p = .two)) →
    ((s.port p).ccs = true → exec (.attach n lowSpeed) s = .next { s with out := [] })
      ∧ ((s.port p).ccs = false →
        ∃ t, exec (.attach n lowSpeed) s = .next t
          ∧ t.port p = { s.port p with ccs := true, lsda := lowSpeed, csc := true }
          ∧ (∀ q, q ≠ p → t.port q = s.port q)
          ∧ { t with port1 := s.port1, port2 := s.port2 } =
              { s with
                hcInterruptStatus := s.hcInterruptStatus ||| 0x00000040#32
                irqLevel := levelOf s.hcInterrupt (s.hcInterruptStatus ||| 0x00000040#32)
                out := pushIfNew s.params.irqNum s.irqLevel
                  (levelOf s.hcInterrupt (s.hcInterruptStatus ||| 0x00000040#32)) })

/-- R381: detaching a device; PESC is raised if the port was enabled. -/
def Obligations.DetachResult : Prop :=
  ∀ (s : State) (n : Nat) (p : PortNo), s.constructed = true → s.lineSettled →
    ((n = 1 ∧ p = .one) ∨ (n = 2 ∧ p = .two)) →
    ((s.port p).ccs = false → exec (.detach n) s = .next { s with out := [] })
      ∧ ((s.port p).ccs = true →
        ∃ t, exec (.detach n) s = .next t
          ∧ t.port p = { s.port p with
              ccs := false, lsda := false, pes := false, pss := false, prs := false, csc := true
              pesc := (s.port p).pesc || (s.port p).pes }
          ∧ (∀ q, q ≠ p → t.port q = s.port q)
          ∧ { t with port1 := s.port1, port2 := s.port2 } =
              { s with
                hcInterruptStatus := s.hcInterruptStatus ||| 0x00000040#32
                irqLevel := levelOf s.hcInterrupt (s.hcInterruptStatus ||| 0x00000040#32)
                out := pushIfNew s.params.irqNum s.irqLevel
                  (levelOf s.hcInterrupt (s.hcInterruptStatus ||| 0x00000040#32)) })

/-- R382: an enabled port-reset completion. -/
def Obligations.PortResetDoneResult : Prop :=
  ∀ (s : State) (n : Nat) (p : PortNo), s.constructed = true → s.lineSettled →
    ((n = 1 ∧ p = .one) ∨ (n = 2 ∧ p = .two)) → (s.port p).prs = true → (s.port p).resetDue ≤ s.now →
    ∃ t, exec (.prdone n) s = .next t
      ∧ t.port p = { s.port p with
          prs := false, pes := true, pss := false, prsc := true, csc := (s.port p).csc || (s.port p).ccs }
      ∧ (∀ q, q ≠ p → t.port q = s.port q)
      ∧ { t with port1 := s.port1, port2 := s.port2 } =
          { s with
            hcInterruptStatus := s.hcInterruptStatus ||| 0x00000040#32
            irqLevel := levelOf s.hcInterrupt (s.hcInterruptStatus ||| 0x00000040#32)
            out := pushIfNew s.params.irqNum s.irqLevel
              (levelOf s.hcInterrupt (s.hcInterruptStatus ||| 0x00000040#32)) }

/-- R133: an event whose port operand is outside 1 and 2 is refused. An ADV of no tick is no event of R133; that it stops,
and under which name, is the model's choice (log 7). -/
def Obligations.OperandsOutsideTheirRangeAreRefused : Prop :=
  ∀ (s : State) (n : Nat) (lowSpeed : Bool),
    (n ≠ 1 → n ≠ 2 →
      exec (.attach n lowSpeed) s = .refused .badPort
        ∧ exec (.detach n) s = .refused .badPort
        ∧ exec (.prdone n) s = .refused .badPort)
      ∧ exec (.adv 0) s = .refused .zeroAdvance

/-- R62: CCS is 1 from an attach event to the next detach event; only those events change it, and reset keeps it. -/
def Obligations.ConnectStatusFollowsTheDevice : Prop :=
  ∀ (i : Instr) (s t : State) (n : Nat) (p : PortNo), s.constructed = true →
    ((n = 1 ∧ p = .one) ∨ (n = 2 ∧ p = .two)) → exec i s = .next t →
    ((∃ lowSpeed, i = .attach n lowSpeed) → (t.port p).ccs = true)
      ∧ (i = .detach n → (t.port p).ccs = false)
      ∧ ((t.port p).ccs ≠ (s.port p).ccs → (∃ lowSpeed, i = .attach n lowSpeed) ∨ i = .detach n)

/-! ### Time, construction and the whole machine -/

/-- R383: time advances by d ticks and nothing else changes; no timer fires by itself. -/
def Obligations.TimeAdvance : Prop :=
  ∀ (s : State) (d : Nat), s.constructed = true → 1 ≤ d →
    exec (.adv d) s = .next { s with now := s.now + d, out := [] }

/-- R440, R81: what construction leaves; a second CONSTRUCT is refused, and no other step of the instance exists before the
first. -/
def Obligations.ConstructResult : Prop :=
  ∀ s : State,
    (s.constructed = true → exec .construct s = .refused .reservedEvent)
      ∧ (s.constructed = false → exec .construct s = .next
        { s.resetValues with
          constructed := true
          port1 := { pps := s.params.nps }
          port2 := { pps := s.params.nps }
          timerDeadline := 0
          sofTime := 0
          out := [] })
      ∧ (s.constructed = false → ∀ (i : Instr) (t : State), exec i s = .next t → i = .construct)

/-- R10, R18, R46, R47, R80: no transaction changes the construction parameters (the descriptors among them), the script or
the agent's position in it; the host time never decreases, and only ADV changes it. -/
def Obligations.ParametersScriptAndTime : Prop :=
  ∀ (i : Instr) (s t : State), exec i s = .next t →
    (t.params = s.params ∧ t.script = s.script ∧ t.pc = s.pc)
      ∧ s.now ≤ t.now ∧ (t.now ≠ s.now → ∃ d, i = .adv d ∧ t.now = s.now + d)

/-- R67, R71, R72, R75: the fields no rule reads cannot be observed. Two states that differ only in FiPending, in the
deadline of a disarmed timer, in SOFtime outside Operational and in resetDue of a port that is not in reset give the same
answer to every transaction, the same outputs with it, and again states that differ only in these. -/
def Obligations.UnreadFieldsAreUnobservable : Prop :=
  ∀ (i : Instr) (s u : State), s.observable = u.observable → sameAnswer (exec i s) (exec i u)

/-- R116, R430: the steps of the two instances commute, and a step of one leaves the other. This is the form of the model's
Platform, a pair of states each with a clock of its own (DESIGN CHOICE, log 11): with one clock for both, an ADV of one
instance and a FIRE of the other would not commute. -/
def Obligations.InstancesAreIndependent : Prop :=
  ∀ pl : Platform,
    (pl.stepInstance 0).bind (·.stepInstance 1) = (pl.stepInstance 1).bind (·.stepInstance 0)
      ∧ ∀ (j k : Fin Config.nInstances) (pl' : Platform), pl.stepInstance k = some pl' → j ≠ k → pl'.lookup j = pl.lookup j
end

