-- ==== Sys2Proof/Laws/Memory.lean ====
section
/-! SUPPORT. Guest memory: a read after a write, and the canonical form kept by every operation. -/

namespace Sys2Proof.Machine

open Sys2Proof

theorem Memory.get_set_same (m : Memory) (a : Nat) (b : Byte) : (m.set a b).get a = some b := by
  induction m with
  | nil => simp [Memory.set, Memory.get]
  | cons c rest ih =>
    obtain ⟨x, c⟩ := c
    simp only [Memory.set]
    split
    · simp [Memory.get]
    · split
      · simp [Memory.get]
      · next h1 h2 => simp [Memory.get, ih, Ne.symm h2]

theorem Memory.get_set_other (m : Memory) (a b : Nat) (v : Byte) (h : b ≠ a) :
    (m.set a v).get b = m.get b := by
  induction m with
  | nil => simp [Memory.set, Memory.get, Ne.symm h]
  | cons c rest ih =>
    obtain ⟨x, c⟩ := c
    simp only [Memory.set]
    split
    · simp [Memory.get, Ne.symm h]
    · split
      · next h1 h2 => subst h2; simp [Memory.get, Ne.symm h]
      · simp [Memory.get, ih]

theorem Memory.risingFrom_set (m : Memory) (lo : Option Nat) (a : Nat) (b : Byte)
    (hm : Memory.risingFrom lo m = true) (hlo : (lo.all fun l => decide (l < a)) = true) :
    Memory.risingFrom lo (m.set a b) = true := by
  induction m generalizing lo with
  | nil => simp [Memory.set, Memory.risingFrom, hlo]
  | cons c rest ih =>
    obtain ⟨x, c⟩ := c
    simp only [Memory.risingFrom, Bool.and_eq_true] at hm
    simp only [Memory.set]
    split
    · next h => simp [Memory.risingFrom, hlo, hm.2, h]
    · split
      · next h1 h2 => subst h2; simp [Memory.risingFrom, hlo, hm.2]
      · next h1 h2 =>
        have hx : x < a := by omega
        simp [Memory.risingFrom, hm.1, ih (some x) hm.2 (by simp [hx])]

theorem Memory.mem_set (m : Memory) (a : Nat) (b : Byte) (c : Host.Cell) (h : c ∈ m.set a b) :
    c = (a, b) ∨ c ∈ m := by
  induction m with
  | nil => simpa [Memory.set] using h
  | cons d rest ih =>
    obtain ⟨x, e⟩ := d
    simp only [Memory.set] at h
    split at h
    · simpa using h
    · split at h
      · rcases List.mem_cons.mp h with h | h
        · exact .inl h
        · exact .inr (List.mem_cons_of_mem _ h)
      · rcases List.mem_cons.mp h with h | h
        · exact .inr (by simp [h])
        · exact (ih h).imp id (List.mem_cons_of_mem _)

/-- A write of one byte inside the address space keeps the canonical form. -/
theorem Memory.wf_set (m : Memory) (a : Nat) (b : Byte) (hm : m.wf = true) (ha : a < 2 ^ 32) :
    (m.set a b).wf = true := by
  simp only [Memory.wf, Bool.and_eq_true, List.all_eq_true, decide_eq_true_eq] at hm ⊢
  refine ⟨Memory.risingFrom_set m none a b hm.1 (by simp), fun c hc => ?_⟩
  rcases Memory.mem_set m a b c hc with rfl | hc
  · exact ha
  · exact hm.2 c hc

theorem byteAddress_lt (addr : Word) (k : Nat) : byteAddress addr k < 2 ^ 32 := (addr + BitVec.ofNat 32 k).isLt

/-- A little-endian write keeps the canonical form. -/
theorem Memory.wf_writeLE (m : Memory) (addr : Word) (n : Nat) (v : Word) (hm : m.wf = true) :
    (m.writeLE addr n v).wf = true := by
  induction n with
  | zero => exact hm
  | succ k ih => exact Memory.wf_set _ _ _ ih (byteAddress_lt addr k)

/-- An address that is none of the written bytes keeps its byte. -/
theorem Memory.get_writeLE_outside (m : Memory) (addr : Word) (n : Nat) (v : Word) (a : Nat)
    (h : ∀ k < n, a ≠ byteAddress addr k) : (m.writeLE addr n v).get a = m.get a := by
  induction n with
  | zero => rfl
  | succ k ih =>
    rw [Memory.writeLE, Memory.get_set_other _ _ _ _ (h k (Nat.lt_succ_self k))]
    exact ih fun j hj => h j (Nat.lt_succ_of_lt hj)

theorem byteAddress_inj (addr : Word) {j k : Nat} (hj : j < 2 ^ 32) (hk : k < 2 ^ 32)
    (h : byteAddress addr j = byteAddress addr k) : j = k := by
  simp only [byteAddress, BitVec.toNat_add, BitVec.toNat_ofNat, Nat.mod_eq_of_lt hj, Nat.mod_eq_of_lt hk] at h
  have := addr.isLt
  omega

/-- Each written byte reads back. -/
theorem Memory.get_writeLE (m : Memory) (addr : Word) (n : Nat) (v : Word) (hn : n ≤ 2 ^ 32) (k : Nat) (hk : k < n) :
    (m.writeLE addr n v).get (byteAddress addr k) = some (byteOf v k) := by
  induction n with
  | zero => exact absurd hk (Nat.not_lt_zero k)
  | succ j ih =>
    rw [Memory.writeLE]
    by_cases hkj : k = j
    · subst hkj; exact Memory.get_set_same _ _ _
    · rw [Memory.get_set_other]
      · exact ih (by omega) (by omega)
      · exact fun h => hkj (byteAddress_inj addr (by omega) (by omega) h)

end Sys2Proof.Machine
end

