-- ==== Sys2Proof/Laws/State.lean ====
section
/-! SUPPORT. One lemma per field per update of the state, so that no later proof unfolds an update. -/

namespace Sys2Proof.Machine

open Sys2Proof

/-! A step's fresh output list. -/

@[simp] theorem clearOut_params (s : State) : (s.clearOut).params = s.params := rfl
@[simp] theorem clearOut_constructed (s : State) : (s.clearOut).constructed = s.constructed := rfl
@[simp] theorem clearOut_hcControl (s : State) : (s.clearOut).hcControl = s.hcControl := rfl
@[simp] theorem clearOut_hcCommandStatus (s : State) : (s.clearOut).hcCommandStatus = s.hcCommandStatus := rfl
@[simp] theorem clearOut_hcInterruptStatus (s : State) : (s.clearOut).hcInterruptStatus = s.hcInterruptStatus := rfl
@[simp] theorem clearOut_hcInterrupt (s : State) : (s.clearOut).hcInterrupt = s.hcInterrupt := rfl
@[simp] theorem clearOut_hcHCCA (s : State) : (s.clearOut).hcHCCA = s.hcHCCA := rfl
@[simp] theorem clearOut_hcPeriodCurrentED (s : State) : (s.clearOut).hcPeriodCurrentED = s.hcPeriodCurrentED := rfl
@[simp] theorem clearOut_hcControlHeadED (s : State) : (s.clearOut).hcControlHeadED = s.hcControlHeadED := rfl
@[simp] theorem clearOut_hcControlCurrentED (s : State) : (s.clearOut).hcControlCurrentED = s.hcControlCurrentED := rfl
@[simp] theorem clearOut_hcBulkHeadED (s : State) : (s.clearOut).hcBulkHeadED = s.hcBulkHeadED := rfl
@[simp] theorem clearOut_hcBulkCurrentED (s : State) : (s.clearOut).hcBulkCurrentED = s.hcBulkCurrentED := rfl
@[simp] theorem clearOut_hcDoneHead (s : State) : (s.clearOut).hcDoneHead = s.hcDoneHead := rfl
@[simp] theorem clearOut_hcFmInterval (s : State) : (s.clearOut).hcFmInterval = s.hcFmInterval := rfl
@[simp] theorem clearOut_hcFmRemaining (s : State) : (s.clearOut).hcFmRemaining = s.hcFmRemaining := rfl
@[simp] theorem clearOut_hcFmNumber (s : State) : (s.clearOut).hcFmNumber = s.hcFmNumber := rfl
@[simp] theorem clearOut_hcPeriodicStart (s : State) : (s.clearOut).hcPeriodicStart = s.hcPeriodicStart := rfl
@[simp] theorem clearOut_hcLSThreshold (s : State) : (s.clearOut).hcLSThreshold = s.hcLSThreshold := rfl
@[simp] theorem clearOut_hcRhStatus (s : State) : (s.clearOut).hcRhStatus = s.hcRhStatus := rfl
@[simp] theorem clearOut_port1 (s : State) : (s.clearOut).port1 = s.port1 := rfl
@[simp] theorem clearOut_port2 (s : State) : (s.clearOut).port2 = s.port2 := rfl
@[simp] theorem clearOut_timerArmed (s : State) : (s.clearOut).timerArmed = s.timerArmed := rfl
@[simp] theorem clearOut_timerDeadline (s : State) : (s.clearOut).timerDeadline = s.timerDeadline := rfl
@[simp] theorem clearOut_sofTime (s : State) : (s.clearOut).sofTime = s.sofTime := rfl
@[simp] theorem clearOut_usbFrameTime (s : State) : (s.clearOut).usbFrameTime = s.usbFrameTime := rfl
@[simp] theorem clearOut_fiPending (s : State) : (s.clearOut).fiPending = s.fiPending := rfl
@[simp] theorem clearOut_irqLevel (s : State) : (s.clearOut).irqLevel = s.irqLevel := rfl
@[simp] theorem clearOut_now (s : State) : (s.clearOut).now = s.now := rfl
@[simp] theorem clearOut_mem (s : State) : (s.clearOut).mem = s.mem := rfl
@[simp] theorem clearOut_script (s : State) : (s.clearOut).script = s.script := rfl
@[simp] theorem clearOut_pc (s : State) : (s.clearOut).pc = s.pc := rfl
@[simp] theorem clearOut_out (s : State) : s.clearOut.out = [] := rfl

/-! One output more. -/

@[simp] theorem emit_params (s : State) (o : Output) : (s.emit o).params = s.params := rfl
@[simp] theorem emit_constructed (s : State) (o : Output) : (s.emit o).constructed = s.constructed := rfl
@[simp] theorem emit_hcControl (s : State) (o : Output) : (s.emit o).hcControl = s.hcControl := rfl
@[simp] theorem emit_hcCommandStatus (s : State) (o : Output) : (s.emit o).hcCommandStatus = s.hcCommandStatus := rfl
@[simp] theorem emit_hcInterruptStatus (s : State) (o : Output) : (s.emit o).hcInterruptStatus = s.hcInterruptStatus := rfl
@[simp] theorem emit_hcInterrupt (s : State) (o : Output) : (s.emit o).hcInterrupt = s.hcInterrupt := rfl
@[simp] theorem emit_hcHCCA (s : State) (o : Output) : (s.emit o).hcHCCA = s.hcHCCA := rfl
@[simp] theorem emit_hcPeriodCurrentED (s : State) (o : Output) : (s.emit o).hcPeriodCurrentED = s.hcPeriodCurrentED := rfl
@[simp] theorem emit_hcControlHeadED (s : State) (o : Output) : (s.emit o).hcControlHeadED = s.hcControlHeadED := rfl
@[simp] theorem emit_hcControlCurrentED (s : State) (o : Output) : (s.emit o).hcControlCurrentED = s.hcControlCurrentED := rfl
@[simp] theorem emit_hcBulkHeadED (s : State) (o : Output) : (s.emit o).hcBulkHeadED = s.hcBulkHeadED := rfl
@[simp] theorem emit_hcBulkCurrentED (s : State) (o : Output) : (s.emit o).hcBulkCurrentED = s.hcBulkCurrentED := rfl
@[simp] theorem emit_hcDoneHead (s : State) (o : Output) : (s.emit o).hcDoneHead = s.hcDoneHead := rfl
@[simp] theorem emit_hcFmInterval (s : State) (o : Output) : (s.emit o).hcFmInterval = s.hcFmInterval := rfl
@[simp] theorem emit_hcFmRemaining (s : State) (o : Output) : (s.emit o).hcFmRemaining = s.hcFmRemaining := rfl
@[simp] theorem emit_hcFmNumber (s : State) (o : Output) : (s.emit o).hcFmNumber = s.hcFmNumber := rfl
@[simp] theorem emit_hcPeriodicStart (s : State) (o : Output) : (s.emit o).hcPeriodicStart = s.hcPeriodicStart := rfl
@[simp] theorem emit_hcLSThreshold (s : State) (o : Output) : (s.emit o).hcLSThreshold = s.hcLSThreshold := rfl
@[simp] theorem emit_hcRhStatus (s : State) (o : Output) : (s.emit o).hcRhStatus = s.hcRhStatus := rfl
@[simp] theorem emit_port1 (s : State) (o : Output) : (s.emit o).port1 = s.port1 := rfl
@[simp] theorem emit_port2 (s : State) (o : Output) : (s.emit o).port2 = s.port2 := rfl
@[simp] theorem emit_timerArmed (s : State) (o : Output) : (s.emit o).timerArmed = s.timerArmed := rfl
@[simp] theorem emit_timerDeadline (s : State) (o : Output) : (s.emit o).timerDeadline = s.timerDeadline := rfl
@[simp] theorem emit_sofTime (s : State) (o : Output) : (s.emit o).sofTime = s.sofTime := rfl
@[simp] theorem emit_usbFrameTime (s : State) (o : Output) : (s.emit o).usbFrameTime = s.usbFrameTime := rfl
@[simp] theorem emit_fiPending (s : State) (o : Output) : (s.emit o).fiPending = s.fiPending := rfl
@[simp] theorem emit_irqLevel (s : State) (o : Output) : (s.emit o).irqLevel = s.irqLevel := rfl
@[simp] theorem emit_now (s : State) (o : Output) : (s.emit o).now = s.now := rfl
@[simp] theorem emit_mem (s : State) (o : Output) : (s.emit o).mem = s.mem := rfl
@[simp] theorem emit_script (s : State) (o : Output) : (s.emit o).script = s.script := rfl
@[simp] theorem emit_pc (s : State) (o : Output) : (s.emit o).pc = s.pc := rfl
@[simp] theorem emit_out (s : State) (o : Output) : (s.emit o).out = s.out ++ [o] := rfl

/-! The pc moved on. -/

@[simp] theorem advance_params (s : State) : (advance s).params = s.params := rfl
@[simp] theorem advance_constructed (s : State) : (advance s).constructed = s.constructed := rfl
@[simp] theorem advance_hcControl (s : State) : (advance s).hcControl = s.hcControl := rfl
@[simp] theorem advance_hcCommandStatus (s : State) : (advance s).hcCommandStatus = s.hcCommandStatus := rfl
@[simp] theorem advance_hcInterruptStatus (s : State) : (advance s).hcInterruptStatus = s.hcInterruptStatus := rfl
@[simp] theorem advance_hcInterrupt (s : State) : (advance s).hcInterrupt = s.hcInterrupt := rfl
@[simp] theorem advance_hcHCCA (s : State) : (advance s).hcHCCA = s.hcHCCA := rfl
@[simp] theorem advance_hcPeriodCurrentED (s : State) : (advance s).hcPeriodCurrentED = s.hcPeriodCurrentED := rfl
@[simp] theorem advance_hcControlHeadED (s : State) : (advance s).hcControlHeadED = s.hcControlHeadED := rfl
@[simp] theorem advance_hcControlCurrentED (s : State) : (advance s).hcControlCurrentED = s.hcControlCurrentED := rfl
@[simp] theorem advance_hcBulkHeadED (s : State) : (advance s).hcBulkHeadED = s.hcBulkHeadED := rfl
@[simp] theorem advance_hcBulkCurrentED (s : State) : (advance s).hcBulkCurrentED = s.hcBulkCurrentED := rfl
@[simp] theorem advance_hcDoneHead (s : State) : (advance s).hcDoneHead = s.hcDoneHead := rfl
@[simp] theorem advance_hcFmInterval (s : State) : (advance s).hcFmInterval = s.hcFmInterval := rfl
@[simp] theorem advance_hcFmRemaining (s : State) : (advance s).hcFmRemaining = s.hcFmRemaining := rfl
@[simp] theorem advance_hcFmNumber (s : State) : (advance s).hcFmNumber = s.hcFmNumber := rfl
@[simp] theorem advance_hcPeriodicStart (s : State) : (advance s).hcPeriodicStart = s.hcPeriodicStart := rfl
@[simp] theorem advance_hcLSThreshold (s : State) : (advance s).hcLSThreshold = s.hcLSThreshold := rfl
@[simp] theorem advance_hcRhStatus (s : State) : (advance s).hcRhStatus = s.hcRhStatus := rfl
@[simp] theorem advance_port1 (s : State) : (advance s).port1 = s.port1 := rfl
@[simp] theorem advance_port2 (s : State) : (advance s).port2 = s.port2 := rfl
@[simp] theorem advance_timerArmed (s : State) : (advance s).timerArmed = s.timerArmed := rfl
@[simp] theorem advance_timerDeadline (s : State) : (advance s).timerDeadline = s.timerDeadline := rfl
@[simp] theorem advance_sofTime (s : State) : (advance s).sofTime = s.sofTime := rfl
@[simp] theorem advance_usbFrameTime (s : State) : (advance s).usbFrameTime = s.usbFrameTime := rfl
@[simp] theorem advance_fiPending (s : State) : (advance s).fiPending = s.fiPending := rfl
@[simp] theorem advance_irqLevel (s : State) : (advance s).irqLevel = s.irqLevel := rfl
@[simp] theorem advance_now (s : State) : (advance s).now = s.now := rfl
@[simp] theorem advance_mem (s : State) : (advance s).mem = s.mem := rfl
@[simp] theorem advance_script (s : State) : (advance s).script = s.script := rfl
@[simp] theorem advance_out (s : State) : (advance s).out = s.out := rfl
@[simp] theorem advance_pc (s : State) : (advance s).pc = s.pc + 1 := rfl

/-! A port changed. -/

@[simp] theorem modifyPort_params (p : PortNo) (f : Port → Port) (s : State) : (modifyPort p f s).params = s.params := by cases p <;> rfl
@[simp] theorem modifyPort_constructed (p : PortNo) (f : Port → Port) (s : State) : (modifyPort p f s).constructed = s.constructed := by cases p <;> rfl
@[simp] theorem modifyPort_hcControl (p : PortNo) (f : Port → Port) (s : State) : (modifyPort p f s).hcControl = s.hcControl := by cases p <;> rfl
@[simp] theorem modifyPort_hcCommandStatus (p : PortNo) (f : Port → Port) (s : State) : (modifyPort p f s).hcCommandStatus = s.hcCommandStatus := by cases p <;> rfl
@[simp] theorem modifyPort_hcInterruptStatus (p : PortNo) (f : Port → Port) (s : State) : (modifyPort p f s).hcInterruptStatus = s.hcInterruptStatus := by cases p <;> rfl
@[simp] theorem modifyPort_hcInterrupt (p : PortNo) (f : Port → Port) (s : State) : (modifyPort p f s).hcInterrupt = s.hcInterrupt := by cases p <;> rfl
@[simp] theorem modifyPort_hcHCCA (p : PortNo) (f : Port → Port) (s : State) : (modifyPort p f s).hcHCCA = s.hcHCCA := by cases p <;> rfl
@[simp] theorem modifyPort_hcPeriodCurrentED (p : PortNo) (f : Port → Port) (s : State) : (modifyPort p f s).hcPeriodCurrentED = s.hcPeriodCurrentED := by cases p <;> rfl
@[simp] theorem modifyPort_hcControlHeadED (p : PortNo) (f : Port → Port) (s : State) : (modifyPort p f s).hcControlHeadED = s.hcControlHeadED := by cases p <;> rfl
@[simp] theorem modifyPort_hcControlCurrentED (p : PortNo) (f : Port → Port) (s : State) : (modifyPort p f s).hcControlCurrentED = s.hcControlCurrentED := by cases p <;> rfl
@[simp] theorem modifyPort_hcBulkHeadED (p : PortNo) (f : Port → Port) (s : State) : (modifyPort p f s).hcBulkHeadED = s.hcBulkHeadED := by cases p <;> rfl
@[simp] theorem modifyPort_hcBulkCurrentED (p : PortNo) (f : Port → Port) (s : State) : (modifyPort p f s).hcBulkCurrentED = s.hcBulkCurrentED := by cases p <;> rfl
@[simp] theorem modifyPort_hcDoneHead (p : PortNo) (f : Port → Port) (s : State) : (modifyPort p f s).hcDoneHead = s.hcDoneHead := by cases p <;> rfl
@[simp] theorem modifyPort_hcFmInterval (p : PortNo) (f : Port → Port) (s : State) : (modifyPort p f s).hcFmInterval = s.hcFmInterval := by cases p <;> rfl
@[simp] theorem modifyPort_hcFmRemaining (p : PortNo) (f : Port → Port) (s : State) : (modifyPort p f s).hcFmRemaining = s.hcFmRemaining := by cases p <;> rfl
@[simp] theorem modifyPort_hcFmNumber (p : PortNo) (f : Port → Port) (s : State) : (modifyPort p f s).hcFmNumber = s.hcFmNumber := by cases p <;> rfl
@[simp] theorem modifyPort_hcPeriodicStart (p : PortNo) (f : Port → Port) (s : State) : (modifyPort p f s).hcPeriodicStart = s.hcPeriodicStart := by cases p <;> rfl
@[simp] theorem modifyPort_hcLSThreshold (p : PortNo) (f : Port → Port) (s : State) : (modifyPort p f s).hcLSThreshold = s.hcLSThreshold := by cases p <;> rfl
@[simp] theorem modifyPort_hcRhStatus (p : PortNo) (f : Port → Port) (s : State) : (modifyPort p f s).hcRhStatus = s.hcRhStatus := by cases p <;> rfl
@[simp] theorem modifyPort_timerArmed (p : PortNo) (f : Port → Port) (s : State) : (modifyPort p f s).timerArmed = s.timerArmed := by cases p <;> rfl
@[simp] theorem modifyPort_timerDeadline (p : PortNo) (f : Port → Port) (s : State) : (modifyPort p f s).timerDeadline = s.timerDeadline := by cases p <;> rfl
@[simp] theorem modifyPort_sofTime (p : PortNo) (f : Port → Port) (s : State) : (modifyPort p f s).sofTime = s.sofTime := by cases p <;> rfl
@[simp] theorem modifyPort_usbFrameTime (p : PortNo) (f : Port → Port) (s : State) : (modifyPort p f s).usbFrameTime = s.usbFrameTime := by cases p <;> rfl
@[simp] theorem modifyPort_fiPending (p : PortNo) (f : Port → Port) (s : State) : (modifyPort p f s).fiPending = s.fiPending := by cases p <;> rfl
@[simp] theorem modifyPort_irqLevel (p : PortNo) (f : Port → Port) (s : State) : (modifyPort p f s).irqLevel = s.irqLevel := by cases p <;> rfl
@[simp] theorem modifyPort_now (p : PortNo) (f : Port → Port) (s : State) : (modifyPort p f s).now = s.now := by cases p <;> rfl
@[simp] theorem modifyPort_mem (p : PortNo) (f : Port → Port) (s : State) : (modifyPort p f s).mem = s.mem := by cases p <;> rfl
@[simp] theorem modifyPort_script (p : PortNo) (f : Port → Port) (s : State) : (modifyPort p f s).script = s.script := by cases p <;> rfl
@[simp] theorem modifyPort_pc (p : PortNo) (f : Port → Port) (s : State) : (modifyPort p f s).pc = s.pc := by cases p <;> rfl
@[simp] theorem modifyPort_out (p : PortNo) (f : Port → Port) (s : State) : (modifyPort p f s).out = s.out := by cases p <;> rfl
@[simp] theorem modifyPort_port_same (p : PortNo) (f : Port → Port) (s : State) :
    (modifyPort p f s).port p = f (s.port p) := by cases p <;> rfl
theorem modifyPort_port_other (p q : PortNo) (f : Port → Port) (s : State) (h : q ≠ p) :
    (modifyPort p f s).port q = s.port q := by cases p <;> cases q <;> first | rfl | exact absurd rfl h
@[simp] theorem modifyPort_one_port1 (f : Port → Port) (s : State) : (modifyPort .one f s).port1 = f s.port1 := rfl
@[simp] theorem modifyPort_one_port2 (f : Port → Port) (s : State) : (modifyPort .one f s).port2 = s.port2 := rfl
@[simp] theorem modifyPort_two_port1 (f : Port → Port) (s : State) : (modifyPort .two f s).port1 = s.port1 := rfl
@[simp] theorem modifyPort_two_port2 (f : Port → Port) (s : State) : (modifyPort .two f s).port2 = f s.port2 := rfl

/-! The line brought up to date. -/

@[simp] theorem updateInterrupt_params (s : State) : (updateInterrupt s).params = s.params := by unfold updateInterrupt; split <;> rfl
@[simp] theorem updateInterrupt_constructed (s : State) : (updateInterrupt s).constructed = s.constructed := by unfold updateInterrupt; split <;> rfl
@[simp] theorem updateInterrupt_hcControl (s : State) : (updateInterrupt s).hcControl = s.hcControl := by unfold updateInterrupt; split <;> rfl
@[simp] theorem updateInterrupt_hcCommandStatus (s : State) : (updateInterrupt s).hcCommandStatus = s.hcCommandStatus := by unfold updateInterrupt; split <;> rfl
@[simp] theorem updateInterrupt_hcInterruptStatus (s : State) : (updateInterrupt s).hcInterruptStatus = s.hcInterruptStatus := by unfold updateInterrupt; split <;> rfl
@[simp] theorem updateInterrupt_hcInterrupt (s : State) : (updateInterrupt s).hcInterrupt = s.hcInterrupt := by unfold updateInterrupt; split <;> rfl
@[simp] theorem updateInterrupt_hcHCCA (s : State) : (updateInterrupt s).hcHCCA = s.hcHCCA := by unfold updateInterrupt; split <;> rfl
@[simp] theorem updateInterrupt_hcPeriodCurrentED (s : State) : (updateInterrupt s).hcPeriodCurrentED = s.hcPeriodCurrentED := by unfold updateInterrupt; split <;> rfl
@[simp] theorem updateInterrupt_hcControlHeadED (s : State) : (updateInterrupt s).hcControlHeadED = s.hcControlHeadED := by unfold updateInterrupt; split <;> rfl
@[simp] theorem updateInterrupt_hcControlCurrentED (s : State) : (updateInterrupt s).hcControlCurrentED = s.hcControlCurrentED := by unfold updateInterrupt; split <;> rfl
@[simp] theorem updateInterrupt_hcBulkHeadED (s : State) : (updateInterrupt s).hcBulkHeadED = s.hcBulkHeadED := by unfold updateInterrupt; split <;> rfl
@[simp] theorem updateInterrupt_hcBulkCurrentED (s : State) : (updateInterrupt s).hcBulkCurrentED = s.hcBulkCurrentED := by unfold updateInterrupt; split <;> rfl
@[simp] theorem updateInterrupt_hcDoneHead (s : State) : (updateInterrupt s).hcDoneHead = s.hcDoneHead := by unfold updateInterrupt; split <;> rfl
@[simp] theorem updateInterrupt_hcFmInterval (s : State) : (updateInterrupt s).hcFmInterval = s.hcFmInterval := by unfold updateInterrupt; split <;> rfl
@[simp] theorem updateInterrupt_hcFmRemaining (s : State) : (updateInterrupt s).hcFmRemaining = s.hcFmRemaining := by unfold updateInterrupt; split <;> rfl
@[simp] theorem updateInterrupt_hcFmNumber (s : State) : (updateInterrupt s).hcFmNumber = s.hcFmNumber := by unfold updateInterrupt; split <;> rfl
@[simp] theorem updateInterrupt_hcPeriodicStart (s : State) : (updateInterrupt s).hcPeriodicStart = s.hcPeriodicStart := by unfold updateInterrupt; split <;> rfl
@[simp] theorem updateInterrupt_hcLSThreshold (s : State) : (updateInterrupt s).hcLSThreshold = s.hcLSThreshold := by unfold updateInterrupt; split <;> rfl
@[simp] theorem updateInterrupt_hcRhStatus (s : State) : (updateInterrupt s).hcRhStatus = s.hcRhStatus := by unfold updateInterrupt; split <;> rfl
@[simp] theorem updateInterrupt_port1 (s : State) : (updateInterrupt s).port1 = s.port1 := by unfold updateInterrupt; split <;> rfl
@[simp] theorem updateInterrupt_port2 (s : State) : (updateInterrupt s).port2 = s.port2 := by unfold updateInterrupt; split <;> rfl
@[simp] theorem updateInterrupt_timerArmed (s : State) : (updateInterrupt s).timerArmed = s.timerArmed := by unfold updateInterrupt; split <;> rfl
@[simp] theorem updateInterrupt_timerDeadline (s : State) : (updateInterrupt s).timerDeadline = s.timerDeadline := by unfold updateInterrupt; split <;> rfl
@[simp] theorem updateInterrupt_sofTime (s : State) : (updateInterrupt s).sofTime = s.sofTime := by unfold updateInterrupt; split <;> rfl
@[simp] theorem updateInterrupt_usbFrameTime (s : State) : (updateInterrupt s).usbFrameTime = s.usbFrameTime := by unfold updateInterrupt; split <;> rfl
@[simp] theorem updateInterrupt_fiPending (s : State) : (updateInterrupt s).fiPending = s.fiPending := by unfold updateInterrupt; split <;> rfl
@[simp] theorem updateInterrupt_now (s : State) : (updateInterrupt s).now = s.now := by unfold updateInterrupt; split <;> rfl
@[simp] theorem updateInterrupt_mem (s : State) : (updateInterrupt s).mem = s.mem := by unfold updateInterrupt; split <;> rfl
@[simp] theorem updateInterrupt_script (s : State) : (updateInterrupt s).script = s.script := by unfold updateInterrupt; split <;> rfl
@[simp] theorem updateInterrupt_pc (s : State) : (updateInterrupt s).pc = s.pc := by unfold updateInterrupt; split <;> rfl

/-! A status bit set with the line brought up to date. -/

@[simp] theorem setInterrupt_params (bits : Word) (s : State) : (setInterrupt bits s).params = s.params := by simp [setInterrupt]
@[simp] theorem setInterrupt_constructed (bits : Word) (s : State) : (setInterrupt bits s).constructed = s.constructed := by simp [setInterrupt]
@[simp] theorem setInterrupt_hcControl (bits : Word) (s : State) : (setInterrupt bits s).hcControl = s.hcControl := by simp [setInterrupt]
@[simp] theorem setInterrupt_hcCommandStatus (bits : Word) (s : State) : (setInterrupt bits s).hcCommandStatus = s.hcCommandStatus := by simp [setInterrupt]
@[simp] theorem setInterrupt_hcInterrupt (bits : Word) (s : State) : (setInterrupt bits s).hcInterrupt = s.hcInterrupt := by simp [setInterrupt]
@[simp] theorem setInterrupt_hcHCCA (bits : Word) (s : State) : (setInterrupt bits s).hcHCCA = s.hcHCCA := by simp [setInterrupt]
@[simp] theorem setInterrupt_hcPeriodCurrentED (bits : Word) (s : State) : (setInterrupt bits s).hcPeriodCurrentED = s.hcPeriodCurrentED := by simp [setInterrupt]
@[simp] theorem setInterrupt_hcControlHeadED (bits : Word) (s : State) : (setInterrupt bits s).hcControlHeadED = s.hcControlHeadED := by simp [setInterrupt]
@[simp] theorem setInterrupt_hcControlCurrentED (bits : Word) (s : State) : (setInterrupt bits s).hcControlCurrentED = s.hcControlCurrentED := by simp [setInterrupt]
@[simp] theorem setInterrupt_hcBulkHeadED (bits : Word) (s : State) : (setInterrupt bits s).hcBulkHeadED = s.hcBulkHeadED := by simp [setInterrupt]
@[simp] theorem setInterrupt_hcBulkCurrentED (bits : Word) (s : State) : (setInterrupt bits s).hcBulkCurrentED = s.hcBulkCurrentED := by simp [setInterrupt]
@[simp] theorem setInterrupt_hcDoneHead (bits : Word) (s : State) : (setInterrupt bits s).hcDoneHead = s.hcDoneHead := by simp [setInterrupt]
@[simp] theorem setInterrupt_hcFmInterval (bits : Word) (s : State) : (setInterrupt bits s).hcFmInterval = s.hcFmInterval := by simp [setInterrupt]
@[simp] theorem setInterrupt_hcFmRemaining (bits : Word) (s : State) : (setInterrupt bits s).hcFmRemaining = s.hcFmRemaining := by simp [setInterrupt]
@[simp] theorem setInterrupt_hcFmNumber (bits : Word) (s : State) : (setInterrupt bits s).hcFmNumber = s.hcFmNumber := by simp [setInterrupt]
@[simp] theorem setInterrupt_hcPeriodicStart (bits : Word) (s : State) : (setInterrupt bits s).hcPeriodicStart = s.hcPeriodicStart := by simp [setInterrupt]
@[simp] theorem setInterrupt_hcLSThreshold (bits : Word) (s : State) : (setInterrupt bits s).hcLSThreshold = s.hcLSThreshold := by simp [setInterrupt]
@[simp] theorem setInterrupt_hcRhStatus (bits : Word) (s : State) : (setInterrupt bits s).hcRhStatus = s.hcRhStatus := by simp [setInterrupt]
@[simp] theorem setInterrupt_port1 (bits : Word) (s : State) : (setInterrupt bits s).port1 = s.port1 := by simp [setInterrupt]
@[simp] theorem setInterrupt_port2 (bits : Word) (s : State) : (setInterrupt bits s).port2 = s.port2 := by simp [setInterrupt]
@[simp] theorem setInterrupt_timerArmed (bits : Word) (s : State) : (setInterrupt bits s).timerArmed = s.timerArmed := by simp [setInterrupt]
@[simp] theorem setInterrupt_timerDeadline (bits : Word) (s : State) : (setInterrupt bits s).timerDeadline = s.timerDeadline := by simp [setInterrupt]
@[simp] theorem setInterrupt_sofTime (bits : Word) (s : State) : (setInterrupt bits s).sofTime = s.sofTime := by simp [setInterrupt]
@[simp] theorem setInterrupt_usbFrameTime (bits : Word) (s : State) : (setInterrupt bits s).usbFrameTime = s.usbFrameTime := by simp [setInterrupt]
@[simp] theorem setInterrupt_fiPending (bits : Word) (s : State) : (setInterrupt bits s).fiPending = s.fiPending := by simp [setInterrupt]
@[simp] theorem setInterrupt_now (bits : Word) (s : State) : (setInterrupt bits s).now = s.now := by simp [setInterrupt]
@[simp] theorem setInterrupt_mem (bits : Word) (s : State) : (setInterrupt bits s).mem = s.mem := by simp [setInterrupt]
@[simp] theorem setInterrupt_script (bits : Word) (s : State) : (setInterrupt bits s).script = s.script := by simp [setInterrupt]
@[simp] theorem setInterrupt_pc (bits : Word) (s : State) : (setInterrupt bits s).pc = s.pc := by simp [setInterrupt]
@[simp] theorem setInterrupt_hcInterruptStatus (bits : Word) (s : State) :
    (setInterrupt bits s).hcInterruptStatus = s.hcInterruptStatus ||| (bits &&& maskStatus) := by simp [setInterrupt]

/-! A change bit raised. -/

@[simp] theorem raiseChange_params (p : PortNo) (b : ChangeBit) (s : State) : (raiseChange p b s).params = s.params := by simp [raiseChange]
@[simp] theorem raiseChange_constructed (p : PortNo) (b : ChangeBit) (s : State) : (raiseChange p b s).constructed = s.constructed := by simp [raiseChange]
@[simp] theorem raiseChange_hcControl (p : PortNo) (b : ChangeBit) (s : State) : (raiseChange p b s).hcControl = s.hcControl := by simp [raiseChange]
@[simp] theorem raiseChange_hcCommandStatus (p : PortNo) (b : ChangeBit) (s : State) : (raiseChange p b s).hcCommandStatus = s.hcCommandStatus := by simp [raiseChange]
@[simp] theorem raiseChange_hcInterrupt (p : PortNo) (b : ChangeBit) (s : State) : (raiseChange p b s).hcInterrupt = s.hcInterrupt := by simp [raiseChange]
@[simp] theorem raiseChange_hcHCCA (p : PortNo) (b : ChangeBit) (s : State) : (raiseChange p b s).hcHCCA = s.hcHCCA := by simp [raiseChange]
@[simp] theorem raiseChange_hcPeriodCurrentED (p : PortNo) (b : ChangeBit) (s : State) : (raiseChange p b s).hcPeriodCurrentED = s.hcPeriodCurrentED := by simp [raiseChange]
@[simp] theorem raiseChange_hcControlHeadED (p : PortNo) (b : ChangeBit) (s : State) : (raiseChange p b s).hcControlHeadED = s.hcControlHeadED := by simp [raiseChange]
@[simp] theorem raiseChange_hcControlCurrentED (p : PortNo) (b : ChangeBit) (s : State) : (raiseChange p b s).hcControlCurrentED = s.hcControlCurrentED := by simp [raiseChange]
@[simp] theorem raiseChange_hcBulkHeadED (p : PortNo) (b : ChangeBit) (s : State) : (raiseChange p b s).hcBulkHeadED = s.hcBulkHeadED := by simp [raiseChange]
@[simp] theorem raiseChange_hcBulkCurrentED (p : PortNo) (b : ChangeBit) (s : State) : (raiseChange p b s).hcBulkCurrentED = s.hcBulkCurrentED := by simp [raiseChange]
@[simp] theorem raiseChange_hcDoneHead (p : PortNo) (b : ChangeBit) (s : State) : (raiseChange p b s).hcDoneHead = s.hcDoneHead := by simp [raiseChange]
@[simp] theorem raiseChange_hcFmInterval (p : PortNo) (b : ChangeBit) (s : State) : (raiseChange p b s).hcFmInterval = s.hcFmInterval := by simp [raiseChange]
@[simp] theorem raiseChange_hcFmRemaining (p : PortNo) (b : ChangeBit) (s : State) : (raiseChange p b s).hcFmRemaining = s.hcFmRemaining := by simp [raiseChange]
@[simp] theorem raiseChange_hcFmNumber (p : PortNo) (b : ChangeBit) (s : State) : (raiseChange p b s).hcFmNumber = s.hcFmNumber := by simp [raiseChange]
@[simp] theorem raiseChange_hcPeriodicStart (p : PortNo) (b : ChangeBit) (s : State) : (raiseChange p b s).hcPeriodicStart = s.hcPeriodicStart := by simp [raiseChange]
@[simp] theorem raiseChange_hcLSThreshold (p : PortNo) (b : ChangeBit) (s : State) : (raiseChange p b s).hcLSThreshold = s.hcLSThreshold := by simp [raiseChange]
@[simp] theorem raiseChange_hcRhStatus (p : PortNo) (b : ChangeBit) (s : State) : (raiseChange p b s).hcRhStatus = s.hcRhStatus := by simp [raiseChange]
@[simp] theorem raiseChange_timerArmed (p : PortNo) (b : ChangeBit) (s : State) : (raiseChange p b s).timerArmed = s.timerArmed := by simp [raiseChange]
@[simp] theorem raiseChange_timerDeadline (p : PortNo) (b : ChangeBit) (s : State) : (raiseChange p b s).timerDeadline = s.timerDeadline := by simp [raiseChange]
@[simp] theorem raiseChange_sofTime (p : PortNo) (b : ChangeBit) (s : State) : (raiseChange p b s).sofTime = s.sofTime := by simp [raiseChange]
@[simp] theorem raiseChange_usbFrameTime (p : PortNo) (b : ChangeBit) (s : State) : (raiseChange p b s).usbFrameTime = s.usbFrameTime := by simp [raiseChange]
@[simp] theorem raiseChange_fiPending (p : PortNo) (b : ChangeBit) (s : State) : (raiseChange p b s).fiPending = s.fiPending := by simp [raiseChange]
@[simp] theorem raiseChange_now (p : PortNo) (b : ChangeBit) (s : State) : (raiseChange p b s).now = s.now := by simp [raiseChange]
@[simp] theorem raiseChange_mem (p : PortNo) (b : ChangeBit) (s : State) : (raiseChange p b s).mem = s.mem := by simp [raiseChange]
@[simp] theorem raiseChange_script (p : PortNo) (b : ChangeBit) (s : State) : (raiseChange p b s).script = s.script := by simp [raiseChange]
@[simp] theorem raiseChange_pc (p : PortNo) (b : ChangeBit) (s : State) : (raiseChange p b s).pc = s.pc := by simp [raiseChange]

/-! A write to guest memory. -/

@[simp] theorem memWrite_params (addr : Word) (n : Nat) (v : Word) (s : State) : (memWrite addr n v s).params = s.params := rfl
@[simp] theorem memWrite_constructed (addr : Word) (n : Nat) (v : Word) (s : State) : (memWrite addr n v s).constructed = s.constructed := rfl
@[simp] theorem memWrite_hcControl (addr : Word) (n : Nat) (v : Word) (s : State) : (memWrite addr n v s).hcControl = s.hcControl := rfl
@[simp] theorem memWrite_hcCommandStatus (addr : Word) (n : Nat) (v : Word) (s : State) : (memWrite addr n v s).hcCommandStatus = s.hcCommandStatus := rfl
@[simp] theorem memWrite_hcInterruptStatus (addr : Word) (n : Nat) (v : Word) (s : State) : (memWrite addr n v s).hcInterruptStatus = s.hcInterruptStatus := rfl
@[simp] theorem memWrite_hcInterrupt (addr : Word) (n : Nat) (v : Word) (s : State) : (memWrite addr n v s).hcInterrupt = s.hcInterrupt := rfl
@[simp] theorem memWrite_hcHCCA (addr : Word) (n : Nat) (v : Word) (s : State) : (memWrite addr n v s).hcHCCA = s.hcHCCA := rfl
@[simp] theorem memWrite_hcPeriodCurrentED (addr : Word) (n : Nat) (v : Word) (s : State) : (memWrite addr n v s).hcPeriodCurrentED = s.hcPeriodCurrentED := rfl
@[simp] theorem memWrite_hcControlHeadED (addr : Word) (n : Nat) (v : Word) (s : State) : (memWrite addr n v s).hcControlHeadED = s.hcControlHeadED := rfl
@[simp] theorem memWrite_hcControlCurrentED (addr : Word) (n : Nat) (v : Word) (s : State) : (memWrite addr n v s).hcControlCurrentED = s.hcControlCurrentED := rfl
@[simp] theorem memWrite_hcBulkHeadED (addr : Word) (n : Nat) (v : Word) (s : State) : (memWrite addr n v s).hcBulkHeadED = s.hcBulkHeadED := rfl
@[simp] theorem memWrite_hcBulkCurrentED (addr : Word) (n : Nat) (v : Word) (s : State) : (memWrite addr n v s).hcBulkCurrentED = s.hcBulkCurrentED := rfl
@[simp] theorem memWrite_hcDoneHead (addr : Word) (n : Nat) (v : Word) (s : State) : (memWrite addr n v s).hcDoneHead = s.hcDoneHead := rfl
@[simp] theorem memWrite_hcFmInterval (addr : Word) (n : Nat) (v : Word) (s : State) : (memWrite addr n v s).hcFmInterval = s.hcFmInterval := rfl
@[simp] theorem memWrite_hcFmRemaining (addr : Word) (n : Nat) (v : Word) (s : State) : (memWrite addr n v s).hcFmRemaining = s.hcFmRemaining := rfl
@[simp] theorem memWrite_hcFmNumber (addr : Word) (n : Nat) (v : Word) (s : State) : (memWrite addr n v s).hcFmNumber = s.hcFmNumber := rfl
@[simp] theorem memWrite_hcPeriodicStart (addr : Word) (n : Nat) (v : Word) (s : State) : (memWrite addr n v s).hcPeriodicStart = s.hcPeriodicStart := rfl
@[simp] theorem memWrite_hcLSThreshold (addr : Word) (n : Nat) (v : Word) (s : State) : (memWrite addr n v s).hcLSThreshold = s.hcLSThreshold := rfl
@[simp] theorem memWrite_hcRhStatus (addr : Word) (n : Nat) (v : Word) (s : State) : (memWrite addr n v s).hcRhStatus = s.hcRhStatus := rfl
@[simp] theorem memWrite_port1 (addr : Word) (n : Nat) (v : Word) (s : State) : (memWrite addr n v s).port1 = s.port1 := rfl
@[simp] theorem memWrite_port2 (addr : Word) (n : Nat) (v : Word) (s : State) : (memWrite addr n v s).port2 = s.port2 := rfl
@[simp] theorem memWrite_timerArmed (addr : Word) (n : Nat) (v : Word) (s : State) : (memWrite addr n v s).timerArmed = s.timerArmed := rfl
@[simp] theorem memWrite_timerDeadline (addr : Word) (n : Nat) (v : Word) (s : State) : (memWrite addr n v s).timerDeadline = s.timerDeadline := rfl
@[simp] theorem memWrite_sofTime (addr : Word) (n : Nat) (v : Word) (s : State) : (memWrite addr n v s).sofTime = s.sofTime := rfl
@[simp] theorem memWrite_usbFrameTime (addr : Word) (n : Nat) (v : Word) (s : State) : (memWrite addr n v s).usbFrameTime = s.usbFrameTime := rfl
@[simp] theorem memWrite_fiPending (addr : Word) (n : Nat) (v : Word) (s : State) : (memWrite addr n v s).fiPending = s.fiPending := rfl
@[simp] theorem memWrite_irqLevel (addr : Word) (n : Nat) (v : Word) (s : State) : (memWrite addr n v s).irqLevel = s.irqLevel := rfl
@[simp] theorem memWrite_now (addr : Word) (n : Nat) (v : Word) (s : State) : (memWrite addr n v s).now = s.now := rfl
@[simp] theorem memWrite_script (addr : Word) (n : Nat) (v : Word) (s : State) : (memWrite addr n v s).script = s.script := rfl
@[simp] theorem memWrite_pc (addr : Word) (n : Nat) (v : Word) (s : State) : (memWrite addr n v s).pc = s.pc := rfl
@[simp] theorem memWrite_mem (addr : Word) (n : Nat) (v : Word) (s : State) :
    (memWrite addr n v s).mem = s.mem.writeLE addr n v := rfl
@[simp] theorem memWrite_out (addr : Word) (n : Nat) (v : Word) (s : State) :
    (memWrite addr n v s).out = s.out ++ [.memWrite addr n v] := rfl

/-! The timer armed. -/

@[simp] theorem armTimer_params (d : Nat) (s : State) : (armTimer d s).params = s.params := rfl
@[simp] theorem armTimer_constructed (d : Nat) (s : State) : (armTimer d s).constructed = s.constructed := rfl
@[simp] theorem armTimer_hcControl (d : Nat) (s : State) : (armTimer d s).hcControl = s.hcControl := rfl
@[simp] theorem armTimer_hcCommandStatus (d : Nat) (s : State) : (armTimer d s).hcCommandStatus = s.hcCommandStatus := rfl
@[simp] theorem armTimer_hcInterruptStatus (d : Nat) (s : State) : (armTimer d s).hcInterruptStatus = s.hcInterruptStatus := rfl
@[simp] theorem armTimer_hcInterrupt (d : Nat) (s : State) : (armTimer d s).hcInterrupt = s.hcInterrupt := rfl
@[simp] theorem armTimer_hcHCCA (d : Nat) (s : State) : (armTimer d s).hcHCCA = s.hcHCCA := rfl
@[simp] theorem armTimer_hcPeriodCurrentED (d : Nat) (s : State) : (armTimer d s).hcPeriodCurrentED = s.hcPeriodCurrentED := rfl
@[simp] theorem armTimer_hcControlHeadED (d : Nat) (s : State) : (armTimer d s).hcControlHeadED = s.hcControlHeadED := rfl
@[simp] theorem armTimer_hcControlCurrentED (d : Nat) (s : State) : (armTimer d s).hcControlCurrentED = s.hcControlCurrentED := rfl
@[simp] theorem armTimer_hcBulkHeadED (d : Nat) (s : State) : (armTimer d s).hcBulkHeadED = s.hcBulkHeadED := rfl
@[simp] theorem armTimer_hcBulkCurrentED (d : Nat) (s : State) : (armTimer d s).hcBulkCurrentED = s.hcBulkCurrentED := rfl
@[simp] theorem armTimer_hcDoneHead (d : Nat) (s : State) : (armTimer d s).hcDoneHead = s.hcDoneHead := rfl
@[simp] theorem armTimer_hcFmInterval (d : Nat) (s : State) : (armTimer d s).hcFmInterval = s.hcFmInterval := rfl
@[simp] theorem armTimer_hcFmRemaining (d : Nat) (s : State) : (armTimer d s).hcFmRemaining = s.hcFmRemaining := rfl
@[simp] theorem armTimer_hcFmNumber (d : Nat) (s : State) : (armTimer d s).hcFmNumber = s.hcFmNumber := rfl
@[simp] theorem armTimer_hcPeriodicStart (d : Nat) (s : State) : (armTimer d s).hcPeriodicStart = s.hcPeriodicStart := rfl
@[simp] theorem armTimer_hcLSThreshold (d : Nat) (s : State) : (armTimer d s).hcLSThreshold = s.hcLSThreshold := rfl
@[simp] theorem armTimer_hcRhStatus (d : Nat) (s : State) : (armTimer d s).hcRhStatus = s.hcRhStatus := rfl
@[simp] theorem armTimer_port1 (d : Nat) (s : State) : (armTimer d s).port1 = s.port1 := rfl
@[simp] theorem armTimer_port2 (d : Nat) (s : State) : (armTimer d s).port2 = s.port2 := rfl
@[simp] theorem armTimer_sofTime (d : Nat) (s : State) : (armTimer d s).sofTime = s.sofTime := rfl
@[simp] theorem armTimer_usbFrameTime (d : Nat) (s : State) : (armTimer d s).usbFrameTime = s.usbFrameTime := rfl
@[simp] theorem armTimer_fiPending (d : Nat) (s : State) : (armTimer d s).fiPending = s.fiPending := rfl
@[simp] theorem armTimer_irqLevel (d : Nat) (s : State) : (armTimer d s).irqLevel = s.irqLevel := rfl
@[simp] theorem armTimer_now (d : Nat) (s : State) : (armTimer d s).now = s.now := rfl
@[simp] theorem armTimer_mem (d : Nat) (s : State) : (armTimer d s).mem = s.mem := rfl
@[simp] theorem armTimer_script (d : Nat) (s : State) : (armTimer d s).script = s.script := rfl
@[simp] theorem armTimer_pc (d : Nat) (s : State) : (armTimer d s).pc = s.pc := rfl

/-! The timer disarmed. -/

@[simp] theorem disarmTimer_params (s : State) : (disarmTimer s).params = s.params := rfl
@[simp] theorem disarmTimer_constructed (s : State) : (disarmTimer s).constructed = s.constructed := rfl
@[simp] theorem disarmTimer_hcControl (s : State) : (disarmTimer s).hcControl = s.hcControl := rfl
@[simp] theorem disarmTimer_hcCommandStatus (s : State) : (disarmTimer s).hcCommandStatus = s.hcCommandStatus := rfl
@[simp] theorem disarmTimer_hcInterruptStatus (s : State) : (disarmTimer s).hcInterruptStatus = s.hcInterruptStatus := rfl
@[simp] theorem disarmTimer_hcInterrupt (s : State) : (disarmTimer s).hcInterrupt = s.hcInterrupt := rfl
@[simp] theorem disarmTimer_hcHCCA (s : State) : (disarmTimer s).hcHCCA = s.hcHCCA := rfl
@[simp] theorem disarmTimer_hcPeriodCurrentED (s : State) : (disarmTimer s).hcPeriodCurrentED = s.hcPeriodCurrentED := rfl
@[simp] theorem disarmTimer_hcControlHeadED (s : State) : (disarmTimer s).hcControlHeadED = s.hcControlHeadED := rfl
@[simp] theorem disarmTimer_hcControlCurrentED (s : State) : (disarmTimer s).hcControlCurrentED = s.hcControlCurrentED := rfl
@[simp] theorem disarmTimer_hcBulkHeadED (s : State) : (disarmTimer s).hcBulkHeadED = s.hcBulkHeadED := rfl
@[simp] theorem disarmTimer_hcBulkCurrentED (s : State) : (disarmTimer s).hcBulkCurrentED = s.hcBulkCurrentED := rfl
@[simp] theorem disarmTimer_hcDoneHead (s : State) : (disarmTimer s).hcDoneHead = s.hcDoneHead := rfl
@[simp] theorem disarmTimer_hcFmInterval (s : State) : (disarmTimer s).hcFmInterval = s.hcFmInterval := rfl
@[simp] theorem disarmTimer_hcFmRemaining (s : State) : (disarmTimer s).hcFmRemaining = s.hcFmRemaining := rfl
@[simp] theorem disarmTimer_hcFmNumber (s : State) : (disarmTimer s).hcFmNumber = s.hcFmNumber := rfl
@[simp] theorem disarmTimer_hcPeriodicStart (s : State) : (disarmTimer s).hcPeriodicStart = s.hcPeriodicStart := rfl
@[simp] theorem disarmTimer_hcLSThreshold (s : State) : (disarmTimer s).hcLSThreshold = s.hcLSThreshold := rfl
@[simp] theorem disarmTimer_hcRhStatus (s : State) : (disarmTimer s).hcRhStatus = s.hcRhStatus := rfl
@[simp] theorem disarmTimer_port1 (s : State) : (disarmTimer s).port1 = s.port1 := rfl
@[simp] theorem disarmTimer_port2 (s : State) : (disarmTimer s).port2 = s.port2 := rfl
@[simp] theorem disarmTimer_timerDeadline (s : State) : (disarmTimer s).timerDeadline = s.timerDeadline := rfl
@[simp] theorem disarmTimer_sofTime (s : State) : (disarmTimer s).sofTime = s.sofTime := rfl
@[simp] theorem disarmTimer_usbFrameTime (s : State) : (disarmTimer s).usbFrameTime = s.usbFrameTime := rfl
@[simp] theorem disarmTimer_fiPending (s : State) : (disarmTimer s).fiPending = s.fiPending := rfl
@[simp] theorem disarmTimer_irqLevel (s : State) : (disarmTimer s).irqLevel = s.irqLevel := rfl
@[simp] theorem disarmTimer_now (s : State) : (disarmTimer s).now = s.now := rfl
@[simp] theorem disarmTimer_mem (s : State) : (disarmTimer s).mem = s.mem := rfl
@[simp] theorem disarmTimer_script (s : State) : (disarmTimer s).script = s.script := rfl
@[simp] theorem disarmTimer_pc (s : State) : (disarmTimer s).pc = s.pc := rfl

end Sys2Proof.Machine
end

