-- ==== Sys2Proof/Laws/Ops.lean ====
section
/-! SUPPORT. What each shared operation can do, said once: later proofs cite these and do not unfold the operations. -/

namespace Sys2Proof.Machine

open Sys2Proof

/-! ### The shape of a step -/

/-- A step of the machine: a transaction of the script, run, and the pc moved on. -/
theorem step_next {s t : State} (h : step s = .next t) :
    ∃ x u, fetch s = some x ∧ exec (decode x) s = .next u ∧ t = advance u := by
  unfold step at h
  split at h
  · cases h
  · next x hx =>
    revert h
    cases he : exec (decode x) s with
    | next u => intro h; exact ⟨x, u, hx, he, by simpa [stepAnswer] using h.symm⟩
    | fault r => intro h; cases h
    | refused r => intro h; cases h

theorem live_of_constructed {s : State} (h : s.constructed = true) (k : Answer) : live s k = k := if_pos h

theorem live_next {s t : State} {k : Answer} (h : live s k = .next t) : s.constructed = true ∧ k = .next t := by
  unfold live at h
  split at h
  · next hc => exact ⟨hc, h⟩
  · cases h

theorem busRead_next {v : Word} {s t : State} (h : busRead v s = .next t) :
    s.constructed = true ∧ t = s.clearOut.emit (.readData v) := by
  obtain ⟨hc, h⟩ := live_next h
  exact ⟨hc, by simpa using h.symm⟩

theorem busWrite_next {f : State → State} {s t : State} (h : busWrite f s = .next t) :
    s.constructed = true ∧ t = updateInterrupt (f s.clearOut) := by
  obtain ⟨hc, h⟩ := live_next h
  exact ⟨hc, by simpa using h.symm⟩

theorem inWindow_next {o : Nat} {s t : State} {k : Answer} (h : inWindow o s k = .next t) :
    o < s.params.windowSize ∧ k = .next t := by
  unfold inWindow at h
  split at h
  · next ho => exact ⟨ho, h⟩
  · exact absurd (live_next h).2 (by simp)

theorem toleratedRead_next {o : Nat} {s t : State} (h : toleratedRead o s = .next t) :
    s.constructed = true ∧ t = s.clearOut.emit (.readData 0#32) := busRead_next (inWindow_next h).2

theorem toleratedWrite_next {o : Nat} {s t : State} (h : toleratedWrite o s = .next t) :
    s.constructed = true ∧ t = updateInterrupt s.clearOut := by
  unfold toleratedWrite at h
  exact busWrite_next (f := id) (inWindow_next h).2

theorem withPort_next {p : Nat} {s t : State} {k : PortNo → Answer} (h : withPort p s k = .next t) :
    ∃ q, PortNo.ofOperand p = some q ∧ s.constructed = true ∧ k q = .next t := by
  unfold withPort at h
  split at h
  · cases h
  · next q hq => exact ⟨q, hq, live_next h⟩

theorem execFire_next {lr : LR} {s t : State} (h : execFire lr s = .next t) :
    s.constructed = true ∧ s.fireEnabled = true ∧ t = frameFire lr s.clearOut := by
  unfold execFire at h
  obtain ⟨hc, h⟩ := live_next h
  by_cases he : s.fireEnabled = true
  · rw [if_pos he] at h
    exact ⟨hc, he, (Host.Outcome.next.inj h).symm⟩
  · rw [if_neg he] at h
    cases h

theorem execAdv_next {d : Nat} {s t : State} (h : execAdv d s = .next t) :
    d ≠ 0 ∧ s.constructed = true ∧ t = { s.clearOut with now := s.now + d } := by
  unfold execAdv at h
  split at h
  · cases h
  · next hd =>
    obtain ⟨hc, h⟩ := live_next h
    exact ⟨hd, hc, by simpa using h.symm⟩

theorem execConstruct_next {s t : State} (h : execConstruct s = .next t) :
    s.constructed = false ∧ t = construct s := by
  unfold execConstruct at h
  split at h
  · cases h
  · next hc => exact ⟨by simpa using hc, by simpa using h.symm⟩

/-! ### The interrupt engine -/

/-- `UpdateInterrupt()` sets the level the state gives and pushes it if it is new. -/
theorem updateInterrupt_eq (s : State) :
    updateInterrupt s = { s with
      irqLevel := s.intLevel
      out := s.out ++ (if s.intLevel = s.irqLevel then [] else [irqPush s.params.irqNum s.intLevel]) } := by
  unfold updateInterrupt
  split
  · next h => simp [h]
  · rfl

theorem updateInterrupt_settled {s : State} (h : s.lineSettled) : updateInterrupt s = s := if_pos h.symm

@[simp] theorem updateInterrupt_irqLevel (s : State) : (updateInterrupt s).irqLevel = s.intLevel := by
  simp [updateInterrupt_eq]

@[simp] theorem updateInterrupt_intLevel (s : State) : (updateInterrupt s).intLevel = s.intLevel := by
  simp [State.intLevel]

theorem updateInterrupt_lineSettled (s : State) : (updateInterrupt s).lineSettled := by simp [State.lineSettled]

@[simp] theorem emit_intLevel (s : State) (o : Output) : (s.emit o).intLevel = s.intLevel := rfl
@[simp] theorem clearOut_intLevel (s : State) : s.clearOut.intLevel = s.intLevel := rfl
@[simp] theorem modifyPort_intLevel (p : PortNo) (f : Port → Port) (s : State) :
    (modifyPort p f s).intLevel = s.intLevel := by cases p <;> rfl

/-- `SetInterrupt(bits)`: the bits, then the line. -/
theorem setInterrupt_eq (bits : Word) (s : State) :
    setInterrupt bits s =
      updateInterrupt { s with hcInterruptStatus := s.hcInterruptStatus ||| (bits &&& maskStatus) } := rfl

/-- The line update ends in the same level however often it was made before. -/
theorem updateInterrupt_idem (s : State) : updateInterrupt (updateInterrupt s) = updateInterrupt s :=
  updateInterrupt_settled (updateInterrupt_lineSettled s)

/-! ### Ports -/

theorem whenSet_true (f : State → State) (s : State) : whenSet true f s = f s := rfl
theorem whenSet_false (f : State → State) (s : State) : whenSet false f s = s := rfl

/-- A conditional command keeps what its command keeps. -/
theorem whenSet_keeps {P : State → Prop} {b : Bool} {f : State → State} {s : State} (hs : P s) (hf : P s → P (f s)) :
    P (whenSet b f s) := by cases b <;> simp_all [whenSet]

theorem portPowerOff_nps {s : State} (h : s.params.nps = true) (p : PortNo) : portPowerOff p s = s := if_pos h
theorem portPowerOn_nps {s : State} (h : s.params.nps = true) (p : PortNo) : portPowerOn p s = s := if_pos h
theorem portPowerOff_switched {s : State} (h : s.params.nps = false) (p : PortNo) :
    portPowerOff p s = modifyPort p Port.powerOff s := by simp [portPowerOff, h]
theorem portPowerOn_switched {s : State} (h : s.params.nps = false) (p : PortNo) :
    portPowerOn p s = modifyPort p (fun q => { q with pps := true }) s := by simp [portPowerOn, h]

/-- The states that differ from `s` in the ports, the status bits, the level pushed and the outputs only: what a port
operation can reach. -/
def PortFrame (s t : State) : Prop :=
  { t with
    port1 := s.port1, port2 := s.port2, hcInterruptStatus := s.hcInterruptStatus, irqLevel := s.irqLevel, out := s.out } = s

theorem PortFrame.refl (s : State) : PortFrame s s := rfl

theorem PortFrame.trans {s t u : State} (h : PortFrame s t) (k : PortFrame t u) : PortFrame s u := by
  unfold PortFrame at *
  rw [← h]
  have := congrArg (fun x : State => { x with
    port1 := s.port1, port2 := s.port2, hcInterruptStatus := s.hcInterruptStatus, irqLevel := s.irqLevel, out := s.out }) k
  simpa using this

theorem modifyPort_portFrame (p : PortNo) (f : Port → Port) (s : State) : PortFrame s (modifyPort p f s) := by
  cases p <;> rfl

theorem updateInterrupt_portFrame (s : State) : PortFrame s (updateInterrupt s) := by
  rw [updateInterrupt_eq]; rfl

theorem setInterrupt_portFrame (bits : Word) (s : State) : PortFrame s (setInterrupt bits s) :=
  PortFrame.trans (t := { s with hcInterruptStatus := s.hcInterruptStatus ||| (bits &&& maskStatus) }) rfl
    (updateInterrupt_portFrame _)

theorem raiseChange_portFrame (p : PortNo) (b : ChangeBit) (s : State) : PortFrame s (raiseChange p b s) :=
  (modifyPort_portFrame p _ s).trans (setInterrupt_portFrame _ _)

theorem whenSet_portFrame {b : Bool} {f : State → State} (hf : ∀ s, PortFrame s (f s)) (s : State) :
    PortFrame s (whenSet b f s) := by
  cases b
  · exact PortFrame.refl s
  · exact hf s

theorem portPowerOff_portFrame (p : PortNo) (s : State) : PortFrame s (portPowerOff p s) := by
  unfold portPowerOff
  split
  · exact PortFrame.refl s
  · exact modifyPort_portFrame _ _ _

theorem portPowerOn_portFrame (p : PortNo) (s : State) : PortFrame s (portPowerOn p s) := by
  unfold portPowerOn
  split
  · exact PortFrame.refl s
  · exact modifyPort_portFrame _ _ _

theorem clearPortEnable_portFrame (p : PortNo) (s : State) : PortFrame s (clearPortEnable p s) :=
  modifyPort_portFrame _ _ _

theorem setPortEnable_portFrame (p : PortNo) (s : State) : PortFrame s (setPortEnable p s) := by
  unfold setPortEnable
  split
  · exact modifyPort_portFrame _ _ _
  · exact raiseChange_portFrame _ _ _

theorem setPortSuspend_portFrame (p : PortNo) (s : State) : PortFrame s (setPortSuspend p s) := by
  unfold setPortSuspend
  split
  · split
    · exact modifyPort_portFrame _ _ _
    · exact PortFrame.refl s
  · exact raiseChange_portFrame _ _ _

theorem clearSuspendStatus_portFrame (p : PortNo) (s : State) : PortFrame s (clearSuspendStatus p s) := by
  unfold clearSuspendStatus
  split
  · exact (modifyPort_portFrame _ _ _).trans (raiseChange_portFrame _ _ _)
  · exact PortFrame.refl s

theorem setPortReset_portFrame (p : PortNo) (s : State) : PortFrame s (setPortReset p s) := by
  unfold setPortReset
  split
  · split
    · exact PortFrame.refl s
    · exact modifyPort_portFrame _ _ _
  · exact raiseChange_portFrame _ _ _

theorem portCommands_portFrame (p : PortNo) (w : Word) (s : State) : PortFrame s (portCommands p w s) :=
  ((((whenSet_portFrame (clearPortEnable_portFrame p) s).trans (whenSet_portFrame (setPortEnable_portFrame p) _)).trans
    (whenSet_portFrame (setPortSuspend_portFrame p) _)).trans (whenSet_portFrame (clearSuspendStatus_portFrame p) _)).trans
    (whenSet_portFrame (setPortReset_portFrame p) _)

/-- `PortWrite(p, v)` reaches the ports, the status bits, the line and the outputs only. -/
theorem portWrite_portFrame (p : PortNo) (v : Word) (s : State) : PortFrame s (portWrite p v s) := by
  unfold portWrite portWriteMasked portPowerCommands
  refine PortFrame.trans ?_ ((whenSet_portFrame (portPowerOff_portFrame p) _).trans
    (whenSet_portFrame (portPowerOn_portFrame p) _))
  refine (modifyPort_portFrame p (Port.clearChanges (v &&& maskPortStatus)) s).trans ?_
  split
  · exact portCommands_portFrame _ _ _
  · exact PortFrame.refl _

/-! ### The state machine -/

/-- What `LeaveOperational()` leaves. -/
theorem leaveOperational_eq (s : State) :
    leaveOperational s = { s with timerArmed := false, hcFmRemaining := s.liveRemaining, out := s.out ++ [.disarm] } := rfl

/-- What `EnterOperational()` leaves. -/
theorem enterOperational_eq (s : State) :
    enterOperational s = { s with
      sofTime := s.now
      hcFmRemaining := reloadValue s.hcFmInterval
      timerArmed := true
      timerDeadline := s.now + s.usbFrameTime
      out := s.out ++ [.arm s.usbFrameTime] } := rfl

/-- What the Reset procedure leaves: the table of R81 but for the level pushed, which the final line update sets. -/
theorem resetProcedure_eq (s : State) :
    resetProcedure s = { s.resetValues with irqLevel := s.irqLevel, out := s.out ++ [.disarm] } := rfl

/-- The cases of `ChangeState` (R325). -/
theorem changeState_cases (old new : Hcfs) (s : State) :
    (old = new ∧ changeState old new s = s)
      ∨ (old ≠ new ∧ new = .reset ∧
          changeState old new s = resetProcedure (if old = .operational then leaveOperational s else s))
      ∨ (old ≠ new ∧ new = .operational ∧ changeState old new s = enterOperational s)
      ∨ (old ≠ new ∧ (new = .suspend ∨ new = .resume) ∧
          changeState old new s = if old = .operational then leaveOperational s else s) := by
  cases old <;> cases new <;> simp [changeState]

/-! ### The frame fire -/

/-- What the first three steps of a fire leave. -/
theorem fireStart_eq (s : State) :
    stepReload (stepSOF (stepFrameNumber { s with timerArmed := false })) = { s with
      timerArmed := false
      hcFmNumber := writeFN s.hcFmNumber (s.fn + 1#16)
      mem := s.mem.writeLE (s.hcHCCA + 0x80#32) 4 ((s.fn + 1#16).setWidth 32)
      out := s.out ++ [.memWrite (s.hcHCCA + 0x80#32) 4 ((s.fn + 1#16).setWidth 32)]
      hcInterruptStatus := s.hcInterruptStatus ||| bitMask bitSF
      hcFmRemaining := reloadValue s.hcFmInterval
      fiPending := false
      sofTime := s.now } := rfl

theorem stepLists_disabled {lr : LR} {s : State} (h : s.listsEnabled = false) : stepLists lr s = s := by
  simp [stepLists, h]

theorem effectiveAnswer_disabled {lr : LR} {s : State} (h : s.listsEnabled = false) :
    effectiveAnswer lr s = LR.nothing := by simp [effectiveAnswer, h]

theorem effectiveAnswer_enabled {lr : LR} {s : State} (h : s.listsEnabled = true) : effectiveAnswer lr s = lr := by
  simp [effectiveAnswer, h]

theorem stepDoneHead_none {r : LR} {s : State} (h : r.done = none) : stepDoneHead r s = s := by simp [stepDoneHead, h]

theorem stepDoneHead_some {r : LR} {s : State} {d : Word} (h : r.done = some d) :
    stepDoneHead r s = { s with
      hcDoneHead := d &&& maskED
      mem := s.mem.writeLE (s.hcHCCA + 0x84#32) 4 (d &&& maskED)
      out := s.out ++ [.memWrite (s.hcHCCA + 0x84#32) 4 (d &&& maskED)]
      hcInterruptStatus := s.hcInterruptStatus ||| bitMask bitWDH } := by
  simp [stepDoneHead, h, memWrite, setStatusBit, State.emit]

/-- Step 4 with a list enabled reaches the command and status registers, the current pointers and the outputs only. -/
theorem stepLists_enabled {lr : LR} {s : State} (h : s.listsEnabled = true) :
    stepLists lr s = { s with
      hcInterruptStatus := (s.hcInterruptStatus ||| (if lr.overrun then bitMask bitSO else 0#32))
        ||| (if lr.error then bitMask bitUE else 0#32)
      hcCommandStatus := listCommandStatus lr s
      hcPeriodCurrentED := updatedED s.hcPeriodCurrentED lr.periodCur
      hcControlCurrentED := updatedED s.hcControlCurrentED lr.controlCur
      hcBulkCurrentED := updatedED s.hcBulkCurrentED lr.bulkCur
      out := s.out ++ [.listProc (listContext s)] } := by
  cases ho : lr.overrun <;> cases he : lr.error <;>
    simp [stepLists, h, applyListAnswer, whenSet, setStatusBit, State.emit, ho, he, listCommandStatus, State.soc]

/-! ### Guest memory -/

theorem memWrite_wf {addr : Word} {n : Nat} {v : Word} {s : State} (h : s.mem.wf = true) :
    (memWrite addr n v s).mem.wf = true := Memory.wf_writeLE _ _ _ _ h

/-- Memory after reset is canonical. -/
theorem reset_mem_wf : State.reset.mem.wf = true := rfl

/-! ### The script -/

/-- `placeAt` puts the transaction where the pc finds it. -/
theorem placeAt_get (l : List Transaction) (n : Nat) (t : Transaction) : (placeAt l n t)[n]? = some t := by
  induction l generalizing n with
  | nil =>
    induction n with
    | zero => rfl
    | succ n ih => simpa [placeAt] using ih
  | cons x rest ih =>
    cases n with
    | zero => rfl
    | succ n => simpa [placeAt] using ih n

theorem fetch_withFetchWord (s : State) (nbits w : Nat) :
    fetch (s.withFetchWord nbits w) = some (tableTransaction (w % 2 ^ nbits)) := placeAt_get _ _ _

end Sys2Proof.Machine
end

