-- ==== Sys2Proof/Laws/PerInstr.lean ====
section
/-! SUPPORT. The family KeyMatchesRow: the key the encoder gives an instruction matches the instruction's own row of the
opcode table (30_encoding.md R134). -/

namespace Sys2Proof.Laws

open Sys2Proof

/-- The mask of the misaligned and unmapped rows leaves class, size and the low offset bits. -/
theorem busKey_and_low (cls size : BitVec 2) (w : WordIndex) (low : BitVec 2) :
    busKey cls size (w ++ low) &&& 0xF003#16 = busKey cls size (0#10 ++ low) := by
  apply BitVec.eq_of_getLsbD_eq
  intro i hi
  simp only [busKey, BitVec.getLsbD_and, BitVec.getLsbD_append]
  interval_cases i <;> simp

/-- The mask of the width rows leaves class and size. -/
theorem busKey_and_size (cls size : BitVec 2) (o : Offset) :
    busKey cls size o &&& 0xF000#16 = busKey cls size 0#12 := by
  apply BitVec.eq_of_getLsbD_eq
  intro i hi
  simp only [busKey, BitVec.getLsbD_and, BitVec.getLsbD_append]
  interval_cases i <;> simp

/-- The mask of the reserved rows leaves the class. -/
theorem classKey_and (cls : BitVec 2) (code : BitVec 14) : (cls ++ code : BitVec 16) &&& 0xC000#16 = cls ++ 0#14 := by
  apply BitVec.eq_of_getLsbD_eq
  intro i hi
  simp only [BitVec.getLsbD_and, BitVec.getLsbD_append]
  interval_cases i <;> simp

/-- Some row of the table has the instruction's mnemonic and matches the key its encoding has. -/
def KeyMatchesRow.Statement (i : Instr) : Prop :=
  ∃ r ∈ opcodeTable, r.mnemonic = i.mnemonic ∧ r.hits (encode i).key = true

/-- A row of the table settles the statement. -/
theorem rowMatches {i : Instr} (r : OpRow) (hr : opcodeTable.contains r = true)
    (hm : r.mnemonic = i.mnemonic) (hk : (encode i).key &&& r.mask = r.pattern) : KeyMatchesRow.Statement i :=
  ⟨r, by simpa using hr, hm, by simp [OpRow.hits, hk]⟩

theorem KeyMatchesRow.rdHcRevision : KeyMatchesRow.Statement .rdHcRevision :=
  rowMatches ⟨"RD_HcRevision", 0x2000#16, 0xFFFF#16, 0⟩ (by decide) rfl (by simp only [encode]; rfl)

theorem KeyMatchesRow.wrHcRevision (v : Word) : KeyMatchesRow.Statement (.wrHcRevision v) :=
  rowMatches ⟨"WR_HcRevision", 0x6000#16, 0xFFFF#16, 0⟩ (by decide) rfl (by simp only [encode]; rfl)

theorem KeyMatchesRow.rdHcControl : KeyMatchesRow.Statement .rdHcControl :=
  rowMatches ⟨"RD_HcControl", 0x2004#16, 0xFFFF#16, 0⟩ (by decide) rfl (by simp only [encode]; rfl)

theorem KeyMatchesRow.wrHcControl (v : Word) : KeyMatchesRow.Statement (.wrHcControl v) :=
  rowMatches ⟨"WR_HcControl", 0x6004#16, 0xFFFF#16, 0⟩ (by decide) rfl (by simp only [encode]; rfl)

theorem KeyMatchesRow.rdHcCommandStatus : KeyMatchesRow.Statement .rdHcCommandStatus :=
  rowMatches ⟨"RD_HcCommandStatus", 0x2008#16, 0xFFFF#16, 0⟩ (by decide) rfl (by simp only [encode]; rfl)

theorem KeyMatchesRow.wrHcCommandStatus (v : Word) : KeyMatchesRow.Statement (.wrHcCommandStatus v) :=
  rowMatches ⟨"WR_HcCommandStatus", 0x6008#16, 0xFFFF#16, 0⟩ (by decide) rfl (by simp only [encode]; rfl)

theorem KeyMatchesRow.rdHcInterruptStatus : KeyMatchesRow.Statement .rdHcInterruptStatus :=
  rowMatches ⟨"RD_HcInterruptStatus", 0x200C#16, 0xFFFF#16, 0⟩ (by decide) rfl (by simp only [encode]; rfl)

theorem KeyMatchesRow.wrHcInterruptStatus (v : Word) : KeyMatchesRow.Statement (.wrHcInterruptStatus v) :=
  rowMatches ⟨"WR_HcInterruptStatus", 0x600C#16, 0xFFFF#16, 0⟩ (by decide) rfl (by simp only [encode]; rfl)

theorem KeyMatchesRow.rdHcInterruptEnable : KeyMatchesRow.Statement .rdHcInterruptEnable :=
  rowMatches ⟨"RD_HcInterruptEnable", 0x2010#16, 0xFFFF#16, 0⟩ (by decide) rfl (by simp only [encode]; rfl)

theorem KeyMatchesRow.wrHcInterruptEnable (v : Word) : KeyMatchesRow.Statement (.wrHcInterruptEnable v) :=
  rowMatches ⟨"WR_HcInterruptEnable", 0x6010#16, 0xFFFF#16, 0⟩ (by decide) rfl (by simp only [encode]; rfl)

theorem KeyMatchesRow.rdHcInterruptDisable : KeyMatchesRow.Statement .rdHcInterruptDisable :=
  rowMatches ⟨"RD_HcInterruptDisable", 0x2014#16, 0xFFFF#16, 0⟩ (by decide) rfl (by simp only [encode]; rfl)

theorem KeyMatchesRow.wrHcInterruptDisable (v : Word) : KeyMatchesRow.Statement (.wrHcInterruptDisable v) :=
  rowMatches ⟨"WR_HcInterruptDisable", 0x6014#16, 0xFFFF#16, 0⟩ (by decide) rfl (by simp only [encode]; rfl)

theorem KeyMatchesRow.rdHcHCCA : KeyMatchesRow.Statement .rdHcHCCA :=
  rowMatches ⟨"RD_HcHCCA", 0x2018#16, 0xFFFF#16, 0⟩ (by decide) rfl (by simp only [encode]; rfl)

theorem KeyMatchesRow.wrHcHCCA (v : Word) : KeyMatchesRow.Statement (.wrHcHCCA v) :=
  rowMatches ⟨"WR_HcHCCA", 0x6018#16, 0xFFFF#16, 0⟩ (by decide) rfl (by simp only [encode]; rfl)

theorem KeyMatchesRow.rdHcPeriodCurrentED : KeyMatchesRow.Statement .rdHcPeriodCurrentED :=
  rowMatches ⟨"RD_HcPeriodCurrentED", 0x201C#16, 0xFFFF#16, 0⟩ (by decide) rfl (by simp only [encode]; rfl)

theorem KeyMatchesRow.wrHcPeriodCurrentED (v : Word) : KeyMatchesRow.Statement (.wrHcPeriodCurrentED v) :=
  rowMatches ⟨"WR_HcPeriodCurrentED", 0x601C#16, 0xFFFF#16, 0⟩ (by decide) rfl (by simp only [encode]; rfl)

theorem KeyMatchesRow.rdHcControlHeadED : KeyMatchesRow.Statement .rdHcControlHeadED :=
  rowMatches ⟨"RD_HcControlHeadED", 0x2020#16, 0xFFFF#16, 0⟩ (by decide) rfl (by simp only [encode]; rfl)

theorem KeyMatchesRow.wrHcControlHeadED (v : Word) : KeyMatchesRow.Statement (.wrHcControlHeadED v) :=
  rowMatches ⟨"WR_HcControlHeadED", 0x6020#16, 0xFFFF#16, 0⟩ (by decide) rfl (by simp only [encode]; rfl)

theorem KeyMatchesRow.rdHcControlCurrentED : KeyMatchesRow.Statement .rdHcControlCurrentED :=
  rowMatches ⟨"RD_HcControlCurrentED", 0x2024#16, 0xFFFF#16, 0⟩ (by decide) rfl (by simp only [encode]; rfl)

theorem KeyMatchesRow.wrHcControlCurrentED (v : Word) : KeyMatchesRow.Statement (.wrHcControlCurrentED v) :=
  rowMatches ⟨"WR_HcControlCurrentED", 0x6024#16, 0xFFFF#16, 0⟩ (by decide) rfl (by simp only [encode]; rfl)

theorem KeyMatchesRow.rdHcBulkHeadED : KeyMatchesRow.Statement .rdHcBulkHeadED :=
  rowMatches ⟨"RD_HcBulkHeadED", 0x2028#16, 0xFFFF#16, 0⟩ (by decide) rfl (by simp only [encode]; rfl)

theorem KeyMatchesRow.wrHcBulkHeadED (v : Word) : KeyMatchesRow.Statement (.wrHcBulkHeadED v) :=
  rowMatches ⟨"WR_HcBulkHeadED", 0x6028#16, 0xFFFF#16, 0⟩ (by decide) rfl (by simp only [encode]; rfl)

theorem KeyMatchesRow.rdHcBulkCurrentED : KeyMatchesRow.Statement .rdHcBulkCurrentED :=
  rowMatches ⟨"RD_HcBulkCurrentED", 0x202C#16, 0xFFFF#16, 0⟩ (by decide) rfl (by simp only [encode]; rfl)

theorem KeyMatchesRow.wrHcBulkCurrentED (v : Word) : KeyMatchesRow.Statement (.wrHcBulkCurrentED v) :=
  rowMatches ⟨"WR_HcBulkCurrentED", 0x602C#16, 0xFFFF#16, 0⟩ (by decide) rfl (by simp only [encode]; rfl)

theorem KeyMatchesRow.rdHcDoneHead : KeyMatchesRow.Statement .rdHcDoneHead :=
  rowMatches ⟨"RD_HcDoneHead", 0x2030#16, 0xFFFF#16, 0⟩ (by decide) rfl (by simp only [encode]; rfl)

theorem KeyMatchesRow.wrHcDoneHead (v : Word) : KeyMatchesRow.Statement (.wrHcDoneHead v) :=
  rowMatches ⟨"WR_HcDoneHead", 0x6030#16, 0xFFFF#16, 0⟩ (by decide) rfl (by simp only [encode]; rfl)

theorem KeyMatchesRow.rdHcFmInterval : KeyMatchesRow.Statement .rdHcFmInterval :=
  rowMatches ⟨"RD_HcFmInterval", 0x2034#16, 0xFFFF#16, 0⟩ (by decide) rfl (by simp only [encode]; rfl)

theorem KeyMatchesRow.wrHcFmInterval (v : Word) : KeyMatchesRow.Statement (.wrHcFmInterval v) :=
  rowMatches ⟨"WR_HcFmInterval", 0x6034#16, 0xFFFF#16, 0⟩ (by decide) rfl (by simp only [encode]; rfl)

theorem KeyMatchesRow.rdHcFmRemaining : KeyMatchesRow.Statement .rdHcFmRemaining :=
  rowMatches ⟨"RD_HcFmRemaining", 0x2038#16, 0xFFFF#16, 0⟩ (by decide) rfl (by simp only [encode]; rfl)

theorem KeyMatchesRow.wrHcFmRemaining (v : Word) : KeyMatchesRow.Statement (.wrHcFmRemaining v) :=
  rowMatches ⟨"WR_HcFmRemaining", 0x6038#16, 0xFFFF#16, 0⟩ (by decide) rfl (by simp only [encode]; rfl)

theorem KeyMatchesRow.rdHcFmNumber : KeyMatchesRow.Statement .rdHcFmNumber :=
  rowMatches ⟨"RD_HcFmNumber", 0x203C#16, 0xFFFF#16, 0⟩ (by decide) rfl (by simp only [encode]; rfl)

theorem KeyMatchesRow.wrHcFmNumber (v : Word) : KeyMatchesRow.Statement (.wrHcFmNumber v) :=
  rowMatches ⟨"WR_HcFmNumber", 0x603C#16, 0xFFFF#16, 0⟩ (by decide) rfl (by simp only [encode]; rfl)

theorem KeyMatchesRow.rdHcPeriodicStart : KeyMatchesRow.Statement .rdHcPeriodicStart :=
  rowMatches ⟨"RD_HcPeriodicStart", 0x2040#16, 0xFFFF#16, 0⟩ (by decide) rfl (by simp only [encode]; rfl)

theorem KeyMatchesRow.wrHcPeriodicStart (v : Word) : KeyMatchesRow.Statement (.wrHcPeriodicStart v) :=
  rowMatches ⟨"WR_HcPeriodicStart", 0x6040#16, 0xFFFF#16, 0⟩ (by decide) rfl (by simp only [encode]; rfl)

theorem KeyMatchesRow.rdHcLSThreshold : KeyMatchesRow.Statement .rdHcLSThreshold :=
  rowMatches ⟨"RD_HcLSThreshold", 0x2044#16, 0xFFFF#16, 0⟩ (by decide) rfl (by simp only [encode]; rfl)

theorem KeyMatchesRow.wrHcLSThreshold (v : Word) : KeyMatchesRow.Statement (.wrHcLSThreshold v) :=
  rowMatches ⟨"WR_HcLSThreshold", 0x6044#16, 0xFFFF#16, 0⟩ (by decide) rfl (by simp only [encode]; rfl)

theorem KeyMatchesRow.rdHcRhDescriptorA : KeyMatchesRow.Statement .rdHcRhDescriptorA :=
  rowMatches ⟨"RD_HcRhDescriptorA", 0x2048#16, 0xFFFF#16, 0⟩ (by decide) rfl (by simp only [encode]; rfl)

theorem KeyMatchesRow.wrHcRhDescriptorA (v : Word) : KeyMatchesRow.Statement (.wrHcRhDescriptorA v) :=
  rowMatches ⟨"WR_HcRhDescriptorA", 0x6048#16, 0xFFFF#16, 0⟩ (by decide) rfl (by simp only [encode]; rfl)

theorem KeyMatchesRow.rdHcRhDescriptorB : KeyMatchesRow.Statement .rdHcRhDescriptorB :=
  rowMatches ⟨"RD_HcRhDescriptorB", 0x204C#16, 0xFFFF#16, 0⟩ (by decide) rfl (by simp only [encode]; rfl)

theorem KeyMatchesRow.wrHcRhDescriptorB (v : Word) : KeyMatchesRow.Statement (.wrHcRhDescriptorB v) :=
  rowMatches ⟨"WR_HcRhDescriptorB", 0x604C#16, 0xFFFF#16, 0⟩ (by decide) rfl (by simp only [encode]; rfl)

theorem KeyMatchesRow.rdHcRhStatus : KeyMatchesRow.Statement .rdHcRhStatus :=
  rowMatches ⟨"RD_HcRhStatus", 0x2050#16, 0xFFFF#16, 0⟩ (by decide) rfl (by simp only [encode]; rfl)

theorem KeyMatchesRow.wrHcRhStatus (v : Word) : KeyMatchesRow.Statement (.wrHcRhStatus v) :=
  rowMatches ⟨"WR_HcRhStatus", 0x6050#16, 0xFFFF#16, 0⟩ (by decide) rfl (by simp only [encode]; rfl)

theorem KeyMatchesRow.rdHcRhPortStatus1 : KeyMatchesRow.Statement .rdHcRhPortStatus1 :=
  rowMatches ⟨"RD_HcRhPortStatus1", 0x2054#16, 0xFFFF#16, 0⟩ (by decide) rfl (by simp only [encode]; rfl)

theorem KeyMatchesRow.wrHcRhPortStatus1 (v : Word) : KeyMatchesRow.Statement (.wrHcRhPortStatus1 v) :=
  rowMatches ⟨"WR_HcRhPortStatus1", 0x6054#16, 0xFFFF#16, 0⟩ (by decide) rfl (by simp only [encode]; rfl)

theorem KeyMatchesRow.rdHcRhPortStatus2 : KeyMatchesRow.Statement .rdHcRhPortStatus2 :=
  rowMatches ⟨"RD_HcRhPortStatus2", 0x2058#16, 0xFFFF#16, 0⟩ (by decide) rfl (by simp only [encode]; rfl)

theorem KeyMatchesRow.wrHcRhPortStatus2 (v : Word) : KeyMatchesRow.Statement (.wrHcRhPortStatus2 v) :=
  rowMatches ⟨"WR_HcRhPortStatus2", 0x6058#16, 0xFFFF#16, 0⟩ (by decide) rfl (by simp only [encode]; rfl)

theorem KeyMatchesRow.rdMisaligned1 (w : WordIndex) : KeyMatchesRow.Statement (.rdMisaligned1 w) :=
  rowMatches ⟨"RD_MISALIGNED", 0x2001#16, 0xF003#16, 1⟩ (by decide) rfl (busKey_and_low _ _ w _)

theorem KeyMatchesRow.rdMisaligned2 (w : WordIndex) : KeyMatchesRow.Statement (.rdMisaligned2 w) :=
  rowMatches ⟨"RD_MISALIGNED", 0x2002#16, 0xF003#16, 1⟩ (by decide) rfl (busKey_and_low _ _ w _)

theorem KeyMatchesRow.rdMisaligned3 (w : WordIndex) : KeyMatchesRow.Statement (.rdMisaligned3 w) :=
  rowMatches ⟨"RD_MISALIGNED", 0x2003#16, 0xF003#16, 1⟩ (by decide) rfl (busKey_and_low _ _ w _)

theorem KeyMatchesRow.wrMisaligned1 (w : WordIndex) (v : Word) : KeyMatchesRow.Statement (.wrMisaligned1 w v) :=
  rowMatches ⟨"WR_MISALIGNED", 0x6001#16, 0xF003#16, 1⟩ (by decide) rfl (busKey_and_low _ _ w _)

theorem KeyMatchesRow.wrMisaligned2 (w : WordIndex) (v : Word) : KeyMatchesRow.Statement (.wrMisaligned2 w v) :=
  rowMatches ⟨"WR_MISALIGNED", 0x6002#16, 0xF003#16, 1⟩ (by decide) rfl (busKey_and_low _ _ w _)

theorem KeyMatchesRow.wrMisaligned3 (w : WordIndex) (v : Word) : KeyMatchesRow.Statement (.wrMisaligned3 w v) :=
  rowMatches ⟨"WR_MISALIGNED", 0x6003#16, 0xF003#16, 1⟩ (by decide) rfl (busKey_and_low _ _ w _)

theorem KeyMatchesRow.rdUnmapped (w : WordIndex) : KeyMatchesRow.Statement (.rdUnmapped w) :=
  rowMatches ⟨"RD_UNMAPPED", 0x2000#16, 0xF003#16, 2⟩ (by decide) rfl (busKey_and_low _ _ w _)

theorem KeyMatchesRow.wrUnmapped (w : WordIndex) (v : Word) : KeyMatchesRow.Statement (.wrUnmapped w v) :=
  rowMatches ⟨"WR_UNMAPPED", 0x6000#16, 0xF003#16, 2⟩ (by decide) rfl (busKey_and_low _ _ w _)

theorem KeyMatchesRow.rd8 (o : Offset) : KeyMatchesRow.Statement (.rd8 o) :=
  rowMatches ⟨"RD8", 0x0000#16, 0xF000#16, 0⟩ (by decide) rfl (busKey_and_size _ _ o)

theorem KeyMatchesRow.rd16 (o : Offset) : KeyMatchesRow.Statement (.rd16 o) :=
  rowMatches ⟨"RD16", 0x1000#16, 0xF000#16, 0⟩ (by decide) rfl (busKey_and_size _ _ o)

theorem KeyMatchesRow.rd64 (o : Offset) : KeyMatchesRow.Statement (.rd64 o) :=
  rowMatches ⟨"RD64", 0x3000#16, 0xF000#16, 0⟩ (by decide) rfl (busKey_and_size _ _ o)

theorem KeyMatchesRow.wr8 (o : Offset) : KeyMatchesRow.Statement (.wr8 o) :=
  rowMatches ⟨"WR8", 0x4000#16, 0xF000#16, 0⟩ (by decide) rfl (busKey_and_size _ _ o)

theorem KeyMatchesRow.wr16 (o : Offset) : KeyMatchesRow.Statement (.wr16 o) :=
  rowMatches ⟨"WR16", 0x5000#16, 0xF000#16, 0⟩ (by decide) rfl (busKey_and_size _ _ o)

theorem KeyMatchesRow.wr64 (o : Offset) : KeyMatchesRow.Statement (.wr64 o) :=
  rowMatches ⟨"WR64", 0x7000#16, 0xF000#16, 0⟩ (by decide) rfl (busKey_and_size _ _ o)

theorem KeyMatchesRow.reservedClass (code : BitVec 14) : KeyMatchesRow.Statement (.reservedClass code) :=
  rowMatches ⟨"RESERVED_CLASS", 0xC000#16, 0xC000#16, 0⟩ (by decide) rfl (classKey_and _ code)

theorem KeyMatchesRow.fire (lr : LR) : KeyMatchesRow.Statement (.fire lr) :=
  rowMatches ⟨"FIRE", 0x8000#16, 0xFFFF#16, 0⟩ (by decide) rfl (by simp only [encode]; rfl)

theorem KeyMatchesRow.attach (p : Nat) (lowSpeed : Bool) : KeyMatchesRow.Statement (.attach p lowSpeed) :=
  rowMatches ⟨"ATTACH", 0x8001#16, 0xFFFF#16, 0⟩ (by decide) rfl (by simp only [encode]; rfl)

theorem KeyMatchesRow.detach (p : Nat) : KeyMatchesRow.Statement (.detach p) :=
  rowMatches ⟨"DETACH", 0x8002#16, 0xFFFF#16, 0⟩ (by decide) rfl (by simp only [encode]; rfl)

theorem KeyMatchesRow.prdone (p : Nat) : KeyMatchesRow.Statement (.prdone p) :=
  rowMatches ⟨"PRDONE", 0x8003#16, 0xFFFF#16, 0⟩ (by decide) rfl (by simp only [encode]; rfl)

theorem KeyMatchesRow.adv (d : Nat) : KeyMatchesRow.Statement (.adv d) :=
  rowMatches ⟨"ADV", 0x8004#16, 0xFFFF#16, 0⟩ (by decide) rfl (by simp only [encode]; rfl)

theorem KeyMatchesRow.construct : KeyMatchesRow.Statement .construct :=
  rowMatches ⟨"CONSTRUCT", 0x8005#16, 0xFFFF#16, 0⟩ (by decide) rfl (by simp only [encode]; rfl)

theorem KeyMatchesRow.reservedEvent (code : BitVec 14) : KeyMatchesRow.Statement (.reservedEvent code) :=
  rowMatches ⟨"RESERVED_EVENT", 0x8000#16, 0xC000#16, 2⟩ (by decide) rfl (classKey_and _ code)

end Sys2Proof.Laws
end

