-- ==== Sys2Proof/Tests/Slice0.lean ====
section
/-! SUPPORT. Tests of the model against the spec's own examples, the smoke test of WellFormed, the decoding of every
constructor, and for each statement a state and operands that meet its hypotheses. -/

namespace Sys2Proof.Tests

open Sys2Proof Sys2Proof.Machine

/-- The state one instruction leaves; the state itself where it is not taken. -/
def after (i : Instr) (s : State) : State :=
  match exec i s with
  | .next t => t
  | .fault _ => s
  | .refused _ => s

/-- I0 with the interrupt line settled whatever the registers are. -/
def settle (s : State) : State := { s with irqLevel := s.intLevel }

/-- I0 in Operational with the lists of `control`, armed at tick 0 with FI = 0x2EDF, at tick 12000: the state of the
example of R351. -/
def running (control : Word) : State :=
  { State.reset with
    hcControl := control
    hcHCCA := 0x00012300#32
    hcFmInterval := 0x00002EDF#32
    hcFmRemaining := 0x00002EDF#32
    timerArmed := true
    timerDeadline := 12000
    usbFrameTime := 12000
    now := 12000 }

/-- I0 with a full-speed device on port 1, nothing acknowledged. -/
def attached : State :=
  { State.reset with hcInterruptStatus := 0x40#32, port1 := { ccs := true, pps := true, csc := true } }

/-- Port 1 in reset since tick 50 (example of R382). -/
def resetting : State :=
  { State.reset with now := 60, port1 := { ccs := true, pps := true, prs := true, resetDue := 60 } }

/-- SF is pending and enabled, with the master enable as told. -/
def pending (mie : Bool) : State :=
  settle { running 0x80#32 with
    hcInterrupt := if mie then 0x80000004#32 else 0x00000004#32
    hcInterruptStatus := 0x04#32 }

/-! ### WellFormed -/

/-- R162: offset 0x58 names HcRhPortStatus2. -/
theorem test_wellFormed_rdUnmapped : (Instr.rdUnmapped 22#10).wellFormed = false := by decide
/-- R163: offset 0x00 names HcRevision. -/
theorem test_wellFormed_wrUnmapped : (Instr.wrUnmapped 0#10 5#32).wellFormed = false := by decide
/-- R133: 5 is the code of EV_CONSTRUCT. -/
theorem test_wellFormed_reservedEvent : (Instr.reservedEvent 5#14).wellFormed = false := by decide
theorem test_wellFormed_attach : (Instr.attach 0 true).wellFormed = false := by decide
theorem test_wellFormed_detach : (Instr.detach 3).wellFormed = false := by decide
theorem test_wellFormed_prdone : (Instr.prdone 3).wellFormed = false := by decide
theorem test_wellFormed_adv : (Instr.adv 0).wellFormed = false := by decide
theorem test_wellFormed_accepts :
    [Instr.rdUnmapped 23#10, .wrUnmapped 0x3FF#10 1#32, .reservedEvent 6#14, .attach 2 true, .detach 1, .prdone 2, .adv 1].all
      Instr.wellFormed = true := by decide

/-! ### Decoding: words written out from R130, R133 and R134 -/

theorem test_decode_reads_low :
    [0x2000#16, 0x2004#16, 0x2008#16, 0x200C#16, 0x2010#16, 0x2014#16, 0x2018#16, 0x201C#16, 0x2020#16, 0x2024#16,
      0x2028#16, 0x202C#16].map (fun k => decode { key := k }) =
    [.rdHcRevision, .rdHcControl, .rdHcCommandStatus, .rdHcInterruptStatus, .rdHcInterruptEnable, .rdHcInterruptDisable,
      .rdHcHCCA, .rdHcPeriodCurrentED, .rdHcControlHeadED, .rdHcControlCurrentED, .rdHcBulkHeadED, .rdHcBulkCurrentED] := by
  decide

theorem test_decode_reads_high :
    [0x2030#16, 0x2034#16, 0x2038#16, 0x203C#16, 0x2040#16, 0x2044#16, 0x2048#16, 0x204C#16, 0x2050#16, 0x2054#16,
      0x2058#16].map (fun k => decode { key := k }) =
    [.rdHcDoneHead, .rdHcFmInterval, .rdHcFmRemaining, .rdHcFmNumber, .rdHcPeriodicStart, .rdHcLSThreshold,
      .rdHcRhDescriptorA, .rdHcRhDescriptorB, .rdHcRhStatus, .rdHcRhPortStatus1, .rdHcRhPortStatus2] := by decide

theorem test_decode_writes_low :
    [0x6000#16, 0x6004#16, 0x6008#16, 0x600C#16, 0x6010#16, 0x6014#16, 0x6018#16, 0x601C#16, 0x6020#16, 0x6024#16,
      0x6028#16, 0x602C#16].map (fun k => decode { key := k, operands := { v := 0x12345678#32 } }) =
    [.wrHcRevision 0x12345678#32, .wrHcControl 0x12345678#32, .wrHcCommandStatus 0x12345678#32,
      .wrHcInterruptStatus 0x12345678#32, .wrHcInterruptEnable 0x12345678#32, .wrHcInterruptDisable 0x12345678#32,
      .wrHcHCCA 0x12345678#32, .wrHcPeriodCurrentED 0x12345678#32, .wrHcControlHeadED 0x12345678#32,
      .wrHcControlCurrentED 0x12345678#32, .wrHcBulkHeadED 0x12345678#32, .wrHcBulkCurrentED 0x12345678#32] := by decide

theorem test_decode_writes_high :
    [0x6030#16, 0x6034#16, 0x6038#16, 0x603C#16, 0x6040#16, 0x6044#16, 0x6048#16, 0x604C#16, 0x6050#16, 0x6054#16,
      0x6058#16].map (fun k => decode { key := k, operands := { v := 0x12345678#32 } }) =
    [.wrHcDoneHead 0x12345678#32, .wrHcFmInterval 0x12345678#32, .wrHcFmRemaining 0x12345678#32,
      .wrHcFmNumber 0x12345678#32, .wrHcPeriodicStart 0x12345678#32, .wrHcLSThreshold 0x12345678#32,
      .wrHcRhDescriptorA 0x12345678#32, .wrHcRhDescriptorB 0x12345678#32, .wrHcRhStatus 0x12345678#32,
      .wrHcRhPortStatus1 0x12345678#32, .wrHcRhPortStatus2 0x12345678#32] := by decide

theorem test_decode_tolerated :
    [0x2001#16, 0x2006#16, 0x2FFF#16, 0x6001#16, 0x6006#16, 0x6FFF#16, 0x205C#16, 0x6100#16].map
      (fun k => decode { key := k, operands := { v := 7#32 } }) =
    [.rdMisaligned1 0#10, .rdMisaligned2 1#10, .rdMisaligned3 0x3FF#10, .wrMisaligned1 0#10 7#32, .wrMisaligned2 1#10 7#32,
      .wrMisaligned3 0x3FF#10 7#32, .rdUnmapped 0x17#10, .wrUnmapped 0x40#10 7#32] := by decide

theorem test_decode_refused :
    [0x0004#16, 0x1004#16, 0x3FFF#16, 0x4004#16, 0x5004#16, 0x7000#16, 0xC001#16, 0xFFFF#16, 0x8006#16, 0x9000#16,
      0xA001#16].map (fun k => decode { key := k }) =
    [.rd8 4#12, .rd16 4#12, .rd64 0xFFF#12, .wr8 4#12, .wr16 4#12, .wr64 0#12, .reservedClass 1#14, .reservedClass 0x3FFF#14,
      .reservedEvent 6#14, .reservedEvent 0x1000#14, .reservedEvent 0x2001#14] := by decide

theorem test_decode_events :
    [0x8000#16, 0x8001#16, 0x8002#16, 0x8003#16, 0x8004#16, 0x8005#16].map
      (fun k => decode { key := k, operands := { lr := { overrun := true }, p := 2, lowSpeed := true, d := 9 } }) =
    [.fire { overrun := true }, .attach 2 true, .detach 2, .prdone 2, .adv 9, .construct] := by decide

theorem test_decodeTableWord_construct : decodeTableWord 16 0x8005 = some .construct := by decide
theorem test_decodeTableWord_too_long : decodeTableWord 16 0x12004 = none := by decide

/-- R138: GO_OPERATIONAL of 0x3C writes 0xBC, PORTACK of all ones only the change bits. -/
theorem test_pseudo :
    (Pseudo.goOperational 0x3C#32).expand = .wrHcControl 0xBC#32
      ∧ (Pseudo.portAck1 0xFFFFFFFF#32).expand = .wrHcRhPortStatus1 0x001F0000#32 := by decide

/-! ### Steps -/

theorem test_step_fetches : (fetch (State.reset.withFetchWord 16 0x2048)).map decode = some .rdHcRhDescriptorA := by decide

/-- A step runs the word and moves on (R18, R270). -/
theorem test_step_runs :
    step (State.reset.withFetchWord 16 0x2048) =
      .next { State.reset.withFetchWord 16 0x2048 with pc := 1, out := [.readData 0x202#32] } := rfl

/-- R384: at reset the timer is disarmed. -/
theorem test_step_stuck : step (State.reset.withFetchWord 16 0x8000) = .fault .timerFireNotEnabled := rfl

theorem test_step_end : step State.reset = .fault .endOfScript := rfl

/-- R440, R12: CONSTRUCT gives the state after reset. -/
theorem test_construct : exec .construct State.unconstructed = .next State.reset := rfl
theorem test_construct_twice : exec .construct State.reset = .refused .reservedEvent := rfl

/-! ### Control and status registers: the examples of R180 to R191 -/

theorem test_rdHcRevision : (after .rdHcRevision State.reset).readResult = some 0x10#32 := by decide
theorem test_wrHcRevision : after (.wrHcRevision 0xFFFFFFFF#32) State.reset = State.reset := by decide
theorem test_rdHcControl :
    (after .rdHcControl { State.reset with hcControl := 0xBC#32 }).readResult = some 0xBC#32 := by decide
theorem test_wrHcControl : (after (.wrHcControl 0xFFFFFFFF#32) State.reset).hcControl = 0x7FF#32 := by decide
/-- R323: FI = 0x2EDF, entry at tick 100. -/
theorem test_wrHcControl_operational :
    (after (.wrHcControl 0x80#32)
      { State.reset with hcFmInterval := 0x2EDF#32, usbFrameTime := 12000, now := 100 }).timerDeadline = 12100 := by decide
theorem test_rdHcCommandStatus :
    (after .rdHcCommandStatus { State.reset with hcCommandStatus := 0x00020000#32 }).readResult = some 0x00020000#32 := by
  decide
theorem test_wrHcCommandStatus : (after (.wrHcCommandStatus 0x00030006#32) State.reset).hcCommandStatus = 6#32 := by decide
/-- R185: with HCR the other bits are lost. -/
theorem test_wrHcCommandStatus_hcr : (after (.wrHcCommandStatus 0xF#32) (running 0x80#32)).hcCommandStatus = 0#32 := by
  decide
theorem test_rdHcInterruptStatus :
    (after .rdHcInterruptStatus { State.reset with hcInterruptStatus := 4#32 }).readResult = some 4#32 := by decide
theorem test_wrHcInterruptStatus :
    (after (.wrHcInterruptStatus 4#32) { State.reset with hcInterruptStatus := 0x46#32 }).hcInterruptStatus = 0x42#32 := by
  decide
theorem test_rdHcInterruptEnable :
    (after .rdHcInterruptEnable { State.reset with hcInterrupt := 0x80000044#32 }).readResult = some 0x80000044#32 := by
  decide
theorem test_wrHcInterruptEnable :
    (after (.wrHcInterruptEnable 0xFFFFFFFF#32) State.reset).hcInterrupt = 0xC000007F#32 := by decide
theorem test_rdHcInterruptDisable :
    (after .rdHcInterruptDisable { State.reset with hcInterrupt := 0x80000004#32 }).readResult = some 0x80000004#32 := by
  decide
theorem test_wrHcInterruptDisable :
    (after (.wrHcInterruptDisable 0x80000000#32) { State.reset with hcInterrupt := 0x80000004#32 }).hcInterrupt = 4#32 := by
  decide
/-- R407: setting MIE with SF pending asserts the line. -/
theorem test_wrHcInterruptEnable_asserts :
    (after (.wrHcInterruptEnable 0x80000000#32) (pending false)).out = [.irqAssert 0] := by decide

/-! ### Memory pointers: the examples of R220 to R233 -/

theorem test_rdHcHCCA : (after .rdHcHCCA { State.reset with hcHCCA := 0x12300#32 }).readResult = some 0x12300#32 := by
  decide
theorem test_wrHcHCCA : (after (.wrHcHCCA 0x000123FF#32) State.reset).hcHCCA = 0x00012300#32 := by decide
theorem test_rdHcPeriodCurrentED :
    (after .rdHcPeriodCurrentED { State.reset with hcPeriodCurrentED := 0xABC0#32 }).readResult = some 0xABC0#32 := by
  decide
theorem test_wrHcPeriodCurrentED :
    (after (.wrHcPeriodCurrentED 0xABCD#32) State.reset).hcPeriodCurrentED = 0xABC0#32 := by decide
theorem test_rdHcControlHeadED :
    (after .rdHcControlHeadED { State.reset with hcControlHeadED := 0x00100010#32 }).readResult = some 0x00100010#32 := by
  decide
theorem test_wrHcControlHeadED : (after (.wrHcControlHeadED 0x1F#32) State.reset).hcControlHeadED = 0x10#32 := by decide
theorem test_rdHcControlCurrentED :
    (after .rdHcControlCurrentED { State.reset with hcControlCurrentED := 0x20#32 }).readResult = some 0x20#32 := by decide
theorem test_wrHcControlCurrentED :
    (after (.wrHcControlCurrentED 0x12345678#32) State.reset).hcControlCurrentED = 0x12345670#32 := by decide
theorem test_rdHcBulkHeadED :
    (after .rdHcBulkHeadED { State.reset with hcBulkHeadED := 0x30#32 }).readResult = some 0x30#32 := by decide
theorem test_wrHcBulkHeadED : (after (.wrHcBulkHeadED 0xFFFFFFFF#32) State.reset).hcBulkHeadED = 0xFFFFFFF0#32 := by
  decide
theorem test_rdHcBulkCurrentED :
    (after .rdHcBulkCurrentED { State.reset with hcBulkCurrentED := 0x40#32 }).readResult = some 0x40#32 := by decide
theorem test_wrHcBulkCurrentED : (after (.wrHcBulkCurrentED 0x18#32) State.reset).hcBulkCurrentED = 0x10#32 := by decide
theorem test_rdHcDoneHead :
    (after .rdHcDoneHead { State.reset with hcDoneHead := 0x00200040#32 }).readResult = some 0x00200040#32 := by decide
theorem test_wrHcDoneHead : (after (.wrHcDoneHead 0x11#32) State.reset).hcDoneHead = 0x10#32 := by decide

/-! ### Frame registers: the examples of R240 to R251 -/

theorem test_rdHcFmInterval :
    (after .rdHcFmInterval { State.reset with hcFmInterval := 0xA7782EDF#32 }).readResult = some 0xA7782EDF#32 := by decide
theorem test_wrHcFmInterval :
    (after (.wrHcFmInterval 0xFFFFFFFF#32) State.reset).hcFmInterval = 0xFFFF3FFF#32
      ∧ (after (.wrHcFmInterval 0xFFFFFFFF#32) State.reset).usbFrameTime = 0x4000
      ∧ (after (.wrHcFmInterval 0xFFFFFFFF#32) State.reset).fiPending = true := by decide
/-- R242: 6000 ticks after the SOF, FI = 0x2EDF. -/
theorem test_rdHcFmRemaining :
    (after .rdHcFmRemaining { running 0x80#32 with now := 6000 }).readResult = some 0x0000176F#32 := by decide
/-- R251: the countdown stops at 0 when the fire is late. -/
theorem test_rdHcFmRemaining_late :
    (after .rdHcFmRemaining { running 0x80#32 with now := 13000 }).readResult = some 0#32 := by decide
theorem test_wrHcFmRemaining : after (.wrHcFmRemaining 0x1234#32) State.reset = State.reset := by decide
theorem test_rdHcFmNumber :
    (after .rdHcFmNumber { State.reset with hcFmNumber := 3#32 }).readResult = some 3#32 := by decide
theorem test_wrHcFmNumber : after (.wrHcFmNumber 0xFFFF#32) State.reset = State.reset := by decide
theorem test_rdHcPeriodicStart :
    (after .rdHcPeriodicStart { State.reset with hcPeriodicStart := 0x2A27#32 }).readResult = some 0x2A27#32 := by decide
theorem test_wrHcPeriodicStart :
    (after (.wrHcPeriodicStart 0xFFFFFFFF#32) State.reset).hcPeriodicStart = 0x3FFF#32 := by decide
/-- R248: not OHCI's 0x0628 after reset. -/
theorem test_rdHcLSThreshold : (after .rdHcLSThreshold State.reset).readResult = some 0#32 := by decide
theorem test_wrHcLSThreshold : (after (.wrHcLSThreshold 0x00010628#32) State.reset).hcLSThreshold = 0x628#32 := by decide

/-! ### Root hub: the examples of R270 to R286 -/

theorem test_rdHcRhDescriptorA : (after .rdHcRhDescriptorA State.reset).readResult = some 0x202#32 := by decide
theorem test_wrHcRhDescriptorA : after (.wrHcRhDescriptorA 0#32) State.reset = State.reset := by decide
theorem test_rdHcRhDescriptorB : (after .rdHcRhDescriptorB State.reset).readResult = some 0#32 := by decide
theorem test_wrHcRhDescriptorB : after (.wrHcRhDescriptorB 0xFFFFFFFF#32) State.reset = State.reset := by decide
theorem test_rdHcRhStatus :
    (after .rdHcRhStatus { State.reset with hcRhStatus := 0x8000#32 }).readResult = some 0x8000#32 := by decide
/-- R275: DRWE set and cleared by one write is clear. -/
theorem test_wrHcRhStatus : (after (.wrHcRhStatus 0x80008000#32) State.reset).hcRhStatus = 0#32 := by decide
theorem test_rdHcRhPortStatus1 : (after .rdHcRhPortStatus1 attached).readResult = some 0x00010101#32 := by decide
theorem test_wrHcRhPortStatus1 :
    portView (after (.wrHcRhPortStatus1 0x00010000#32) attached).port1 = 0x00000101#32 := by decide
/-- R280: SetPortReset at tick 50. -/
theorem test_wrHcRhPortStatus1_reset :
    portView (after (.wrHcRhPortStatus1 0x00010010#32) { attached with now := 50 }).port1 = 0x00000111#32
      ∧ (after (.wrHcRhPortStatus1 0x00010010#32) { attached with now := 50 }).port1.resetDue = 60 := by decide
theorem test_rdHcRhPortStatus2 : (after .rdHcRhPortStatus2 State.reset).readResult = some 0x00000100#32 := by decide
/-- R279: SetPortEnable on an empty port. -/
theorem test_wrHcRhPortStatus2 :
    portView (after (.wrHcRhPortStatus2 2#32) State.reset).port2 = 0x00010100#32
      ∧ (after (.wrHcRhPortStatus2 2#32) State.reset).hcInterruptStatus = 0x40#32 := by decide

/-! ### Accesses without a register: R162 to R165 -/

theorem test_rdMisaligned1 : exec (.rdMisaligned1 1#10) attached = .next { attached with out := [.readData 0#32] } := rfl
theorem test_rdMisaligned2 : exec (.rdMisaligned2 1#10) attached = .next { attached with out := [.readData 0#32] } := rfl
theorem test_rdMisaligned3 : exec (.rdMisaligned3 1#10) attached = .next { attached with out := [.readData 0#32] } := rfl
theorem test_wrMisaligned1 : exec (.wrMisaligned1 1#10 0xFF#32) attached = .next attached := rfl
theorem test_wrMisaligned2 : exec (.wrMisaligned2 1#10 0xFF#32) attached = .next attached := rfl
theorem test_wrMisaligned3 : exec (.wrMisaligned3 1#10 0xFF#32) attached = .next attached := rfl
theorem test_rdUnmapped : exec (.rdUnmapped 0x17#10) attached = .next { attached with out := [.readData 0#32] } := rfl
theorem test_wrUnmapped : exec (.wrUnmapped 0x40#10 0xFFFFFFFF#32) attached = .next attached := rfl
theorem test_refused_widths :
    exec (.rd8 4#12) State.reset = .refused .subWordAccess ∧ exec (.wr64 4#12) State.reset = .refused .wideAccess :=
  ⟨rfl, rfl⟩

/-! ### Events: the examples of R351 and R380 to R383 -/

theorem test_fire :
    (after (.fire {}) (running 0x80#32)).out = [.memWrite 0x00012380#32 4 1#32, .arm 12000]
      ∧ (after (.fire {}) (running 0x80#32)).hcInterruptStatus = 4#32
      ∧ (after (.fire {}) (running 0x80#32)).timerDeadline = 24000 := by decide
/-- R356, R357: an overrun counts in SOC, the done head is masked and written back. -/
theorem test_fire_lists :
    (after (.fire { overrun := true, done := some 0x00200044#32 }) (running 0x90#32)).hcCommandStatus = 0x00010000#32
      ∧ (after (.fire { overrun := true, done := some 0x00200044#32 }) (running 0x90#32)).hcInterruptStatus = 7#32
      ∧ (after (.fire { overrun := true, done := some 0x00200044#32 }) (running 0x90#32)).mem.get 0x00012384
          = some 0x40#8 := by decide
theorem test_attach :
    portView (after (.attach 1 false) State.reset).port1 = 0x00010101#32
      ∧ (after (.attach 1 false) State.reset).hcInterruptStatus = 0x40#32 := by decide
theorem test_attach_bad_port : exec (.attach 3 false) State.reset = .refused .badPort := rfl
theorem test_detach :
    portView (after (.detach 1) { State.reset with port1 := { ccs := true, pes := true, pps := true } }).port1
      = 0x00030100#32 := by decide
theorem test_prdone : portView (after (.prdone 1) resetting).port1 = 0x00110103#32 := by decide
/-- R384: one tick too early. -/
theorem test_prdone_early : exec (.prdone 1) { resetting with now := 59 } = .fault .portResetDoneNotEnabled := rfl
theorem test_adv : (after (.adv 6000) State.reset).now = 6000 := by decide
theorem test_adv_zero : exec (.adv 0) State.reset = .refused .zeroAdvance := rfl

/-- R406: each instance has its own step. -/
theorem test_platform :
    (({ inst0 := some (State.reset.withFetchWord 16 0x8004), inst1 := some State.reset } : Platform).stepInstance 0).bind
      (fun pl => pl.inst0.map (·.now)) = some 1 := by decide

/-! ### Witnesses: for each statement with hypotheses, a state and operands that meet them -/

theorem witness_StepRunsDecodedTransaction :
    ({ State.reset with script := [{ key := 0x2004#16 }] } : State).script[0]? = some { key := 0x2004#16 } := rfl

theorem witness_DecodeOfEncode :
    [Instr.rdUnmapped 23#10, .wrUnmapped 0x3FF#10 1#32, .reservedEvent 6#14, .reservedEvent 0x3FFF#14, .fire {},
      .rdHcControl].all Instr.encodable = true := by decide

theorem witness_InvariantKeptByStep :
    let s : State := { running 0x80#32 with script := [{ key := 0x8000#16 }] }
    s.inv ∧ step s = .next { after (.fire {}) s with pc := 1 } := ⟨by decide, rfl⟩

/-- An instance with power switching (NPS = 0), its registers and ports not zero before CONSTRUCT. -/
theorem witness_InvariantAtConstruction :
    let s : State := { attached with
      params := { Params.i0 with rhdaInit := 0x00000002#32 }, constructed := false, hcInterrupt := 0xFFFFFFFF#32 }
    s.constructed = false ∧ s.params.valid ∧ s.params.nps = false ∧ s.mem.wf = true := by decide

theorem witness_ControlRegisterReads : State.reset.constructed = true := rfl
theorem witness_PointerRegisterReads : (running 0x80#32).constructed = true := rfl
theorem witness_FrameAndDescriptorReads : (running 0xBC#32).constructed = true := rfl

theorem witness_FmRemainingReadsLiveCountdown :
    (State.reset.constructed = true ∧ State.reset.hcControl.extractLsb' 6 2 ≠ 2#2)
      ∧ (running 0x80#32).constructed = true ∧ (running 0x80#32).hcControl.extractLsb' 6 2 = 2#2 := by decide

theorem witness_RootHubReads : attached.constructed = true := rfl

theorem witness_ReadsChangeNoState :
    isRead .rdHcFmRemaining = true
      ∧ exec .rdHcFmRemaining (running 0x80#32) = .next (after .rdHcFmRemaining (running 0x80#32)) := ⟨rfl, rfl⟩

theorem witness_ToleratedAccessesDoNothing :
    State.reset.constructed = true ∧ State.reset.lineSettled ∧ 4 * (0x3FF#10).toNat + 3 < State.reset.params.windowSize := by
  decide

theorem witness_OutsideTheWindowNothingRuns :
    let s : State := { State.reset with params := { Params.i0 with windowSize := 0x5C } }
    s.constructed = true ∧ s.params.valid ∧ s.params.windowSize ≤ 4 * (23#10).toNat := by decide

theorem witness_ReadOnlyWritesSkip : attached.constructed = true ∧ attached.lineSettled := by decide
theorem witness_MaskedStores : (running 0xBC#32).constructed = true ∧ (running 0xBC#32).lineSettled := by decide
theorem witness_FmIntervalWrite : (pending true).constructed = true ∧ (pending true).lineSettled := by decide
theorem witness_FrameTimeFormula : Params.i0.valid := by decide

theorem witness_RoundTripLaw :
    (running 0x80#32).constructed = true ∧ (running 0x80#32).registersInv
      ∧ resets (.wrHcControl 0xC0#32) (running 0x80#32) = false := by decide

theorem witness_InterruptRegisterWrites : (pending true).constructed = true := rfl

theorem witness_MasterEnableFlipsTheLine :
    (∀ b, (pending b).constructed = true ∧ (pending b).lineSettled ∧ (pending b).hcInterrupt.getLsbD 2 = true
        ∧ (pending b).hcInterruptStatus.getLsbD 2 = true ∧ (pending b).hcInterrupt.getLsbD 31 = b)
      ∧ exec (.fire {}) (pending false) = .next (after (.fire {}) (pending false)) := ⟨by decide, rfl⟩

theorem witness_PushesAreChangesOnly :
    exec (.wrHcInterruptStatus 4#32) (pending true) = .next (after (.wrHcInterruptStatus 4#32) (pending true))
      ∧ (pending true).constructed = true := ⟨rfl, rfl⟩

/-- A settled state with the line low that two raises and a plain port change take to an asserted line, by one push. -/
theorem witness_InnerLineUpdateMayBeDropped :
    let s := settle { attached with hcInterrupt := 0x80000040#32, hcInterruptStatus := 0#32 }
    let acts : List PortAct := [.raise .one .csc, { port := .two, change := fun q => { q with pes := true }, bits := 0#32 },
      .raise .one .pesc]
    s.lineSettled ∧ (acts.foldl PortAct.runWithUpdate s).out = [.irqAssert 0] := by decide

/-- SO, WDH, SF and UE are set by one fire. -/
theorem witness_StatusBitSources_fire :
    let lr : LR := { overrun := true, error := true, done := some 0x10#32 }
    exec (.fire lr) (running 0x90#32) = .next (after (.fire lr) (running 0x90#32))
      ∧ (running 0x90#32).hcInterruptStatus = 0#32
      ∧ (after (.fire lr) (running 0x90#32)).hcInterruptStatus = 0x17#32 := ⟨rfl, by decide, by decide⟩

/-- RHSC is set by an attach, and SF is cleared by a write. -/
theorem witness_StatusBitSources :
    (exec (.attach 1 false) State.reset = .next (after (.attach 1 false) State.reset)
        ∧ (after (.attach 1 false) State.reset).hcInterruptStatus.getLsbD 6 = true)
      ∧ exec (.wrHcInterruptStatus 4#32) (pending true) = .next (after (.wrHcInterruptStatus 4#32) (pending true))
      ∧ (pending true).hcInterruptStatus.getLsbD 2 = true
      ∧ (after (.wrHcInterruptStatus 4#32) (pending true)).hcInterruptStatus.getLsbD 2 = false :=
  ⟨⟨rfl, by decide⟩, rfl, by decide, by decide⟩

theorem witness_EnablesChangeOnlyAtTheirPorts :
    exec (.wrHcCommandStatus 1#32) (pending true) = .next (after (.wrHcCommandStatus 1#32) (pending true))
      ∧ (after (.wrHcCommandStatus 1#32) (pending true)).hcInterrupt ≠ (pending true).hcInterrupt := ⟨rfl, by decide⟩

theorem witness_EnablesChangeOnlyAtTheirPorts_enable :
    exec (.wrHcInterruptEnable 1#32) (pending true) = .next (after (.wrHcInterruptEnable 1#32) (pending true))
      ∧ (after (.wrHcInterruptEnable 1#32) (pending true)).hcInterrupt ≠ (pending true).hcInterrupt := ⟨rfl, by decide⟩

theorem witness_CommandBitsAreSet :
    (pending true).constructed = true ∧ (pending true).lineSettled ∧ (6#32).getLsbD 0 = false := by decide

theorem witness_HcrGivesResetValues : (pending true).constructed = true ∧ (1#32).getLsbD 0 = true := by decide

theorem witness_ControlWriteStoresOnly :
    State.reset.constructed = true ∧ State.reset.lineSettled
      ∧ (0x3C#32).extractLsb' 6 2 = State.reset.hcControl.extractLsb' 6 2
      ∧ State.reset.hcControl.extractLsb' 6 2 ≠ 2#2
      ∧ ((0x40#32).extractLsb' 6 2 = 1#2 ∧ (0xC0#32).extractLsb' 6 2 = 3#2) := by decide

theorem witness_EnteringOperational :
    State.reset.constructed = true ∧ State.reset.lineSettled ∧ State.reset.hcControl.extractLsb' 6 2 ≠ 2#2
      ∧ (0xBC#32).extractLsb' 6 2 = 2#2 := by decide

theorem witness_LeavingOperational :
    (pending true).constructed = true ∧ (pending true).lineSettled ∧ (pending true).hcControl.extractLsb' 6 2 = 2#2
      ∧ (0x40#32).extractLsb' 6 2 = 1#2 ∧ (0xC0#32).extractLsb' 6 2 = 3#2 := by decide

theorem witness_ControlWriteIntoReset :
    (pending true).constructed = true ∧ (pending true).hcControl.extractLsb' 6 2 ≠ 0#2 ∧ (0x3C#32).extractLsb' 6 2 = 0#2 := by
  decide

theorem witness_StateChangesOnlyByTheGuest :
    exec (.wrHcCommandStatus 1#32) (running 0x80#32) = .next (after (.wrHcCommandStatus 1#32) (running 0x80#32))
      ∧ (after (.wrHcCommandStatus 1#32) (running 0x80#32)).hcfs ≠ (running 0x80#32).hcfs := ⟨rfl, by decide⟩

theorem witness_ResetIsIdempotent :
    (running 0xBC#32).constructed = true ∧ (running 0xBC#32).hcfs = .operational ∧ (0x3F#32).extractLsb' 6 2 = 0#2
      ∧ exec (.wrHcControl 0x3F#32) (running 0xBC#32) = .next (after (.wrHcControl 0x3F#32) (running 0xBC#32))
      ∧ exec .construct { running 0xBC#32 with constructed := false }
          = .next (after .construct { running 0xBC#32 with constructed := false }) :=
  ⟨rfl, by decide, by decide, rfl, rfl⟩

theorem witness_FireWithListsDisabled :
    (running 0x80#32).constructed = true ∧ (running 0x80#32).timerArmed = true
      ∧ (running 0x80#32).timerDeadline ≤ (running 0x80#32).now
      ∧ (running 0x80#32).hcControl &&& 0x3C#32 = 0#32 := by decide

theorem witness_FireWithListsEnabled :
    (running 0x88#32).constructed = true ∧ (running 0x88#32).timerArmed = true
      ∧ (running 0x88#32).timerDeadline ≤ (running 0x88#32).now
      ∧ (running 0x88#32).hcControl &&& 0x3C#32 ≠ 0#32 := by decide

theorem witness_FireWritesTheHcca :
    let lr : LR := { done := some 0x00200044#32 }
    exec (.fire lr) (running 0x90#32) = .next (after (.fire lr) (running 0x90#32))
      ∧ (running 0x90#32).hcControl &&& 0x3C#32 ≠ 0#32 := ⟨rfl, by decide⟩

theorem witness_FireOutputsInOrder :
    let lr : LR := { done := some 0x00200044#32 }
    exec (.fire lr) (running 0x90#32) = .next (after (.fire lr) (running 0x90#32)) := rfl

theorem witness_NotEnabledEventsAreStuck :
    ¬((running 0x80#32).timerArmed = true ∧ (running 0x80#32).timerDeadline ≤ 11999)
      ∧ State.reset.constructed = true
      ∧ ¬(State.reset.timerArmed = true ∧ State.reset.timerDeadline ≤ State.reset.now)
      ∧ ¬(State.reset.port1.prs = true ∧ State.reset.port1.resetDue ≤ State.reset.now)
      ∧ ¬(State.reset.port2.prs = true ∧ State.reset.port2.resetDue ≤ State.reset.now) := by decide

theorem witness_FramesOnlyWhileOperational :
    (running 0x80#32).inv ∧ exec (.fire {}) (running 0x80#32) = .next (after (.fire {}) (running 0x80#32)) :=
  ⟨by decide, rfl⟩

theorem witness_FrameIntervalChangeIsDeferred :
    let a := after (.wrHcFmInterval 0x80001000#32) (running 0x80#32)
    exec (.wrHcFmInterval 0x80001000#32) (running 0x80#32) = .next a
      ∧ exec (.fire {}) { a with now := 12001 } = .next (after (.fire {}) { a with now := 12001 }) := ⟨rfl, rfl⟩

theorem witness_ArmingAndDisarming :
    (exec (.wrHcControl 0x80#32) State.reset = .next (after (.wrHcControl 0x80#32) State.reset)
        ∧ .arm 1 ∈ (after (.wrHcControl 0x80#32) State.reset).out)
      ∧ exec (.wrHcControl 0xC0#32) (running 0x80#32) = .next (after (.wrHcControl 0xC0#32) (running 0x80#32))
      ∧ .disarm ∈ (after (.wrHcControl 0xC0#32) (running 0x80#32)).out := ⟨⟨rfl, by decide⟩, rfl, by decide⟩

theorem witness_FramesAreCounted :
    (frames [(1, {}), (12000, {})] (running 0x80#32)).map (·.hcFmNumber) = some 2#32 := by decide

/-- HcFmInterval shortened in mid-frame (R362): the deadline stays at 12000, the frame time is now 1. -/
theorem witness_FrameClockNeverStalls :
    let s := after (.wrHcFmInterval 0#32) { running 0x80#32 with now := 6000 }
    let l : List (Nat × LR) := [(6000, {}), (1, { error := true })]
    s.constructed = true ∧ s.timerArmed = true ∧ s.usbFrameTime = 1 ∧ (∀ f ∈ l, 1 ≤ f.1)
      ∧ (∀ f ∈ l.head?, s.timerDeadline ≤ s.now + f.1) ∧ ∀ f ∈ l.tail, s.usbFrameTime ≤ f.1 := by decide

theorem witness_MemoryAndFrameNumberChangeOnlyAtFires :
    exec (.fire {}) (running 0x80#32) = .next (after (.fire {}) (running 0x80#32))
      ∧ (after (.fire {}) (running 0x80#32)).mem ≠ (running 0x80#32).mem
      ∧ (after (.fire {}) (running 0x80#32)).hcFmNumber ≠ (running 0x80#32).hcFmNumber := ⟨rfl, by decide, by decide⟩

theorem witness_RhStatusWrite : attached.constructed = true ∧ attached.lineSettled := by decide
theorem witness_PortStatusWrite : resetting.constructed = true ∧ resetting.lineSettled := by decide

theorem witness_AttachResult :
    attached.constructed = true ∧ attached.lineSettled ∧ (attached.port .one).ccs = true ∧ (attached.port .two).ccs = false := by
  decide

theorem witness_DetachResult :
    attached.constructed = true ∧ attached.lineSettled ∧ (attached.port .one).ccs = true ∧ (attached.port .two).ccs = false := by
  decide

theorem witness_PortResetDoneResult :
    resetting.constructed = true ∧ resetting.lineSettled ∧ (resetting.port .one).prs = true
      ∧ (resetting.port .one).resetDue ≤ resetting.now := by decide

theorem witness_OperandsOutsideTheirRangeAreRefused : (0 ≠ 1 ∧ 0 ≠ 2) ∧ 3 ≠ 1 ∧ 3 ≠ 2 := by decide

theorem witness_ConnectStatusFollowsTheDevice :
    (exec (.attach 2 true) attached = .next (after (.attach 2 true) attached)
        ∧ ((after (.attach 2 true) attached).port .two).ccs ≠ (attached.port .two).ccs)
      ∧ exec (.detach 1) attached = .next (after (.detach 1) attached)
      ∧ ((after (.detach 1) attached).port .one).ccs ≠ (attached.port .one).ccs := ⟨⟨rfl, by decide⟩, rfl, by decide⟩

theorem witness_TimeAdvance : State.reset.constructed = true ∧ 1 ≤ 1 := by decide

theorem witness_ConstructResult :
    State.reset.constructed = true ∧ State.unconstructed.constructed = false
      ∧ exec .construct State.unconstructed = .next State.reset := ⟨rfl, rfl, rfl⟩

theorem witness_ParametersScriptAndTime :
    exec (.adv 3) State.reset = .next (after (.adv 3) State.reset) ∧ (after (.adv 3) State.reset).now ≠ State.reset.now :=
  ⟨rfl, by decide⟩

theorem witness_UnreadFieldsAreUnobservable :
    let u : State := { State.reset with fiPending := true, timerDeadline := 9, sofTime := 7 }
    State.reset.observable = u.observable ∧ State.reset ≠ u := by decide

theorem witness_InstancesAreIndependent :
    let pl : Platform := { inst0 := some (State.reset.withFetchWord 16 0x8004), inst1 := some (State.reset.withFetchWord 16 0x8001) }
    (pl.stepInstance 0).isSome = true ∧ (pl.stepInstance 1).isSome = true ∧ (1 : Fin Config.nInstances) ≠ 0 := by decide

end Sys2Proof.Tests
end

/-! PROOFS of the family 00_scope.md: the step and the script, the invariants of the state, and what no transaction
changes. What every taken transaction does is said once (`exec_next_taken`); each statement over all instructions is a
case split on it. -/

namespace Sys2Proof.Machine

open Sys2Proof

/-! ### What a taken transaction does -/

/-- The register rule `f` that a write runs before the final line update (R161). -/
inductive WriteRule : Instr → (State → State) → Prop
  | wrHcRevision (v : Word) : WriteRule (.wrHcRevision v) id
  | wrHcControl (v : Word) : WriteRule (.wrHcControl v) (writeControl v)
  | wrHcCommandStatus (v : Word) : WriteRule (.wrHcCommandStatus v) (writeCommandStatus v)
  | wrHcInterruptStatus (v : Word) : WriteRule (.wrHcInterruptStatus v)
      fun s => { s with hcInterruptStatus := s.hcInterruptStatus &&& ~~~(v &&& maskStatus) }
  | wrHcInterruptEnable (v : Word) : WriteRule (.wrHcInterruptEnable v)
      fun s => { s with hcInterrupt := s.hcInterrupt ||| (v &&& maskInterrupt) }
  | wrHcInterruptDisable (v : Word) : WriteRule (.wrHcInterruptDisable v)
      fun s => { s with hcInterrupt := s.hcInterrupt &&& ~~~(v &&& maskInterrupt) }
  | wrHcHCCA (v : Word) : WriteRule (.wrHcHCCA v) fun s => { s with hcHCCA := v &&& maskHCCA }
  | wrHcPeriodCurrentED (v : Word) : WriteRule (.wrHcPeriodCurrentED v)
      fun s => { s with hcPeriodCurrentED := v &&& maskED }
  | wrHcControlHeadED (v : Word) : WriteRule (.wrHcControlHeadED v) fun s => { s with hcControlHeadED := v &&& maskED }
  | wrHcControlCurrentED (v : Word) : WriteRule (.wrHcControlCurrentED v)
      fun s => { s with hcControlCurrentED := v &&& maskED }
  | wrHcBulkHeadED (v : Word) : WriteRule (.wrHcBulkHeadED v) fun s => { s with hcBulkHeadED := v &&& maskED }
  | wrHcBulkCurrentED (v : Word) : WriteRule (.wrHcBulkCurrentED v) fun s => { s with hcBulkCurrentED := v &&& maskED }
  | wrHcDoneHead (v : Word) : WriteRule (.wrHcDoneHead v) fun s => { s with hcDoneHead := v &&& maskED }
  | wrHcFmInterval (v : Word) : WriteRule (.wrHcFmInterval v) (writeFmInterval v)
  | wrHcFmRemaining (v : Word) : WriteRule (.wrHcFmRemaining v) id
  | wrHcFmNumber (v : Word) : WriteRule (.wrHcFmNumber v) id
  | wrHcPeriodicStart (v : Word) : WriteRule (.wrHcPeriodicStart v)
      fun s => { s with hcPeriodicStart := v &&& maskPeriodicStart }
  | wrHcLSThreshold (v : Word) : WriteRule (.wrHcLSThreshold v) fun s => { s with hcLSThreshold := v &&& maskLSThreshold }
  | wrHcRhDescriptorA (v : Word) : WriteRule (.wrHcRhDescriptorA v) id
  | wrHcRhDescriptorB (v : Word) : WriteRule (.wrHcRhDescriptorB v) id
  | wrHcRhStatus (v : Word) : WriteRule (.wrHcRhStatus v) (rhStatusCommands (v &&& maskRhStatus))
  | wrHcRhPortStatus1 (v : Word) : WriteRule (.wrHcRhPortStatus1 v) (portWrite .one v)
  | wrHcRhPortStatus2 (v : Word) : WriteRule (.wrHcRhPortStatus2 v) (portWrite .two v)
  | wrMisaligned1 (w : WordIndex) (v : Word) : WriteRule (.wrMisaligned1 w v) id
  | wrMisaligned2 (w : WordIndex) (v : Word) : WriteRule (.wrMisaligned2 w v) id
  | wrMisaligned3 (w : WordIndex) (v : Word) : WriteRule (.wrMisaligned3 w v) id
  | wrUnmapped (w : WordIndex) (v : Word) : WriteRule (.wrUnmapped w v) id

/-- `Taken s i t`: the transaction `i` is admitted in `s`, and `t` is what it leaves. -/
inductive Taken (s : State) : Instr → State → Prop
  | read {i : Instr} (v : Word) (hi : isRead i = true) (hc : s.constructed = true) :
      Taken s i (s.clearOut.emit (.readData v))
  | write {i : Instr} {f : State → State} (hf : WriteRule i f) (hc : s.constructed = true) :
      Taken s i (updateInterrupt (f s.clearOut))
  | fire (lr : LR) (hc : s.constructed = true) (he : s.fireEnabled = true) :
      Taken s (.fire lr) (frameFire lr s.clearOut)
  | attach {p : Nat} {q : PortNo} (lowSpeed : Bool) (hq : PortNo.ofOperand p = some q) (hc : s.constructed = true) :
      Taken s (.attach p lowSpeed) (updateInterrupt (attachPort q lowSpeed s.clearOut))
  | detach {p : Nat} {q : PortNo} (hq : PortNo.ofOperand p = some q) (hc : s.constructed = true) :
      Taken s (.detach p) (updateInterrupt (detachPort q s.clearOut))
  | prdone {p : Nat} {q : PortNo} (hq : PortNo.ofOperand p = some q) (hc : s.constructed = true)
      (he : s.portResetDoneEnabled q = true) :
      Taken s (.prdone p) (updateInterrupt (portResetDone q s.clearOut))
  | adv {d : Nat} (hd : d ≠ 0) (hc : s.constructed = true) :
      Taken s (.adv d) { s.clearOut with now := s.now + d }
  | construct (hc : s.constructed = false) : Taken s .construct (construct s)

theorem Taken.of_read {i : Instr} {s t : State} {v : Word} (hi : isRead i = true) (h : busRead v s = .next t) :
    Taken s i t := by
  obtain ⟨hc, rfl⟩ := busRead_next h
  exact .read v hi hc

theorem Taken.of_write {i : Instr} {f : State → State} {s t : State} (hf : WriteRule i f)
    (h : busWrite f s = .next t) : Taken s i t := by
  obtain ⟨hc, rfl⟩ := busWrite_next h
  exact .write hf hc

theorem execAttach_next {p : Nat} {lowSpeed : Bool} {s t : State} (h : execAttach p lowSpeed s = .next t) :
    Taken s (.attach p lowSpeed) t := by
  obtain ⟨q, hq, hc, h⟩ := withPort_next h
  obtain rfl := Host.Outcome.next.inj h
  exact .attach lowSpeed hq hc

theorem execDetach_next {p : Nat} {s t : State} (h : execDetach p s = .next t) : Taken s (.detach p) t := by
  obtain ⟨q, hq, hc, h⟩ := withPort_next h
  obtain rfl := Host.Outcome.next.inj h
  exact .detach hq hc

theorem execPrdone_next {p : Nat} {s t : State} (h : execPrdone p s = .next t) : Taken s (.prdone p) t := by
  obtain ⟨q, hq, hc, h⟩ := withPort_next h
  split at h
  · next he =>
    obtain rfl := Host.Outcome.next.inj h
    exact .prdone hq hc he
  · cases h

/-- The inversion of `exec`: a transaction that answers a next state is taken. -/
theorem exec_next_taken {i : Instr} {s t : State} (h : exec i s = .next t) : Taken s i t := by
  cases i with
  | rdHcRevision | rdHcControl | rdHcCommandStatus | rdHcInterruptStatus | rdHcInterruptEnable | rdHcInterruptDisable
  | rdHcHCCA | rdHcPeriodCurrentED | rdHcControlHeadED | rdHcControlCurrentED | rdHcBulkHeadED | rdHcBulkCurrentED
  | rdHcDoneHead | rdHcFmInterval | rdHcFmRemaining | rdHcFmNumber | rdHcPeriodicStart | rdHcLSThreshold
  | rdHcRhDescriptorA | rdHcRhDescriptorB | rdHcRhStatus | rdHcRhPortStatus1 | rdHcRhPortStatus2 =>
    exact .of_read rfl h
  | rdMisaligned1 | rdMisaligned2 | rdMisaligned3 | rdUnmapped => exact .of_read rfl (inWindow_next h).2
  | wrHcRevision v => exact .of_write (.wrHcRevision v) h
  | wrHcControl v => exact .of_write (.wrHcControl v) h
  | wrHcCommandStatus v => exact .of_write (.wrHcCommandStatus v) h
  | wrHcInterruptStatus v => exact .of_write (.wrHcInterruptStatus v) h
  | wrHcInterruptEnable v => exact .of_write (.wrHcInterruptEnable v) h
  | wrHcInterruptDisable v => exact .of_write (.wrHcInterruptDisable v) h
  | wrHcHCCA v => exact .of_write (.wrHcHCCA v) h
  | wrHcPeriodCurrentED v => exact .of_write (.wrHcPeriodCurrentED v) h
  | wrHcControlHeadED v => exact .of_write (.wrHcControlHeadED v) h
  | wrHcControlCurrentED v => exact .of_write (.wrHcControlCurrentED v) h
  | wrHcBulkHeadED v => exact .of_write (.wrHcBulkHeadED v) h
  | wrHcBulkCurrentED v => exact .of_write (.wrHcBulkCurrentED v) h
  | wrHcDoneHead v => exact .of_write (.wrHcDoneHead v) h
  | wrHcFmInterval v => exact .of_write (.wrHcFmInterval v) h
  | wrHcFmRemaining v => exact .of_write (.wrHcFmRemaining v) h
  | wrHcFmNumber v => exact .of_write (.wrHcFmNumber v) h
  | wrHcPeriodicStart v => exact .of_write (.wrHcPeriodicStart v) h
  | wrHcLSThreshold v => exact .of_write (.wrHcLSThreshold v) h
  | wrHcRhDescriptorA v => exact .of_write (.wrHcRhDescriptorA v) h
  | wrHcRhDescriptorB v => exact .of_write (.wrHcRhDescriptorB v) h
  | wrHcRhStatus v => exact .of_write (.wrHcRhStatus v) h
  | wrHcRhPortStatus1 v => exact .of_write (.wrHcRhPortStatus1 v) h
  | wrHcRhPortStatus2 v => exact .of_write (.wrHcRhPortStatus2 v) h
  | wrMisaligned1 w v => exact .of_write (.wrMisaligned1 w v) (inWindow_next h).2
  | wrMisaligned2 w v => exact .of_write (.wrMisaligned2 w v) (inWindow_next h).2
  | wrMisaligned3 w v => exact .of_write (.wrMisaligned3 w v) (inWindow_next h).2
  | wrUnmapped w v => exact .of_write (.wrUnmapped w v) (inWindow_next h).2
  | rd8 | rd16 | rd64 | wr8 | wr16 | wr64 | reservedClass | reservedEvent => cases h
  | fire lr =>
    obtain ⟨hc, he, rfl⟩ := execFire_next h
    exact .fire lr hc he
  | attach p lowSpeed => exact execAttach_next h
  | detach p => exact execDetach_next h
  | prdone p => exact execPrdone_next h
  | adv d =>
    obtain ⟨hd, hc, rfl⟩ := execAdv_next h
    exact .adv hd hc
  | construct =>
    obtain ⟨hc, rfl⟩ := execConstruct_next h
    exact .construct hc

/-! ### Values within a mask -/

/-- Every bit of `x` is a bit of the mask `m`. -/
abbrev Within (m x : Word) : Prop := x &&& ~~~m = 0#32

theorem within_iff {m x : Word} : Within m x ↔ ∀ i < 32, x.getLsbD i = true → m.getLsbD i = true := by
  constructor
  · intro h i hi hx
    have hbit := congrArg (BitVec.getLsbD · i) h
    simpa [hi, hx] using hbit
  · intro h
    refine BitVec.eq_of_getLsbD_eq fun i hi => ?_
    have hbit := h i hi
    cases hx : x.getLsbD i <;> simp_all

theorem within_zero (m : Word) : Within m 0#32 := BitVec.zero_and

theorem within_store (m v : Word) : Within m (v &&& m) :=
  within_iff.mpr fun i _ h => by simp_all

theorem Within.or {m x y : Word} (hx : Within m x) (hy : Within m y) : Within m (x ||| y) := by
  rw [within_iff] at *
  intro i hi h
  rcases Bool.or_eq_true _ _ |>.mp (BitVec.getLsbD_or ▸ h) with h | h
  · exact hx i hi h
  · exact hy i hi h

theorem Within.and {m x : Word} (hx : Within m x) (y : Word) : Within m (x &&& y) := by
  rw [within_iff] at *
  exact fun i hi h => hx i hi (by simp_all)

theorem Within.mono {m n x : Word} (hx : Within m x) (hmn : Within n m) : Within n x := by
  rw [within_iff] at *
  exact fun i hi h => hmn i hi (hx i hi h)

/-- A bit that is clear needs no place in the mask. -/
theorem Within.without {m x : Word} {i : Nat} (hx : Within m x) (hi : x.getLsbD i = false) :
    Within (m &&& ~~~bitMask i) x := by
  rw [within_iff] at *
  intro j hj h
  have hji : j ≠ i := fun e => by simp_all
  have hbit : (bitMask i).getLsbD j = false := by
    simp [bitMask]
    omega
  simp only [BitVec.getLsbD_and, BitVec.getLsbD_not, hx j hj h, hbit, hj]
  rfl

theorem within_of_toNat_lt {x : Word} {k : Nat} (h : x.toNat < 2 ^ k) : Within (BitVec.ofNat 32 (2 ^ k - 1)) x := by
  refine within_iff.mpr fun i hi hx => ?_
  have hik : i < k := by
    by_contra hki
    have hle : 2 ^ k ≤ 2 ^ i := Nat.pow_le_pow_right (by omega) (by omega)
    have hclear := Nat.testBit_lt_two_pow (lt_of_lt_of_le h hle)
    simp [BitVec.getLsbD, hclear] at hx
  simp [BitVec.getLsbD_ofNat, hi, Nat.testBit_two_pow_sub_one, hik]

theorem writeBit_within {m v : Word} {i : Nat} {b : Bool} (hv : Within m v) (hb : b = true → Within m (bitMask i)) :
    Within m (writeBit v i b) := by
  cases b
  · exact hv.and _
  · exact hv.or (hb rfl)

theorem writeFN_within {v : Word} (hv : Within 0x0000FFFF#32 v) (fn : BitVec 16) :
    Within 0x0000FFFF#32 (writeFN v fn) :=
  (hv.and _).or (within_of_toNat_lt (k := 16) ((BitVec.toNat_setWidth_of_le (by decide)).trans_lt fn.isLt))

theorem writeSOC_within {v : Word} (hv : Within 0x0003000E#32 v) (soc : BitVec 2) :
    Within 0x0003000E#32 (writeSOC v soc) := by
  have hsoc : ∀ c : BitVec 2, Within 0x0003000E#32 (c.setWidth 32 <<< 16) := by decide
  exact (hv.and _).or (hsoc soc)

/-- The toggle bit with a 14-bit count: what HcFmRemaining ever holds. -/
theorem within_toggle_or_count {n : Nat} (v : Word) (h : n < 2 ^ 14) :
    Within 0x80003FFF#32 ((v &&& maskToggle) ||| BitVec.ofNat 32 n) := by
  have htoggle : Within 0x80003FFF#32 (v &&& maskToggle) := (within_store _ v).mono (by decide)
  have hcount : Within (BitVec.ofNat 32 (2 ^ 14 - 1)) (BitVec.ofNat 32 n) :=
    within_of_toNat_lt (lt_of_le_of_lt (Nat.mod_le _ _) h)
  exact htoggle.or (hcount.mono (by decide))

theorem reloadValue_within (fmInterval : Word) : Within 0x80003FFF#32 (reloadValue fmInterval) := by
  have hcount := within_toggle_or_count fmInterval (frameField fmInterval).isLt
  rw [BitVec.ofNat_toNat] at hcount
  exact hcount

theorem liveRemaining_within (s : State) : Within 0x80003FFF#32 s.liveRemaining :=
  within_toggle_or_count s.hcFmRemaining (lt_of_le_of_lt (Nat.sub_le _ _) (frameField s.hcFmRemaining).isLt)

/-! ### The invariants, in layers

A step passes through states that break an invariant for a while: the line is settled last, and a transition or a fire
has the timer disarmed while HCFS is Operational. Each layer holds what its acts keep. -/

/-- `State.registersInv` with its parts named (R32). -/
structure RegisterInv (s : State) : Prop where
  hcControl : Within 0x000007FF#32 s.hcControl
  hcCommandStatus : Within 0x0003000E#32 s.hcCommandStatus
  hcInterruptStatus : Within 0x00000057#32 s.hcInterruptStatus
  hcInterrupt : Within 0xC000007F#32 s.hcInterrupt
  hcHCCA : Within 0xFFFFFF00#32 s.hcHCCA
  hcPeriodCurrentED : Within 0xFFFFFFF0#32 s.hcPeriodCurrentED
  hcControlHeadED : Within 0xFFFFFFF0#32 s.hcControlHeadED
  hcControlCurrentED : Within 0xFFFFFFF0#32 s.hcControlCurrentED
  hcBulkHeadED : Within 0xFFFFFFF0#32 s.hcBulkHeadED
  hcBulkCurrentED : Within 0xFFFFFFF0#32 s.hcBulkCurrentED
  hcDoneHead : Within 0xFFFFFFF0#32 s.hcDoneHead
  hcFmInterval : Within 0xFFFF3FFF#32 s.hcFmInterval
  hcFmRemaining : Within 0x80003FFF#32 s.hcFmRemaining
  hcFmNumber : Within 0x0000FFFF#32 s.hcFmNumber
  hcPeriodicStart : Within 0x00003FFF#32 s.hcPeriodicStart
  hcLSThreshold : Within 0x00000FFF#32 s.hcLSThreshold
  hcRhStatus : Within 0x00008000#32 s.hcRhStatus

/-- The invariants but for the timer and the line. -/
structure StoreInv (s : State) : Prop extends RegisterInv s where
  valid : s.params.valid
  port1 : s.port1.inv s.params.nps
  port2 : s.port2.inv s.params.nps
  frameTime : s.usbFrameTime = frameTime s.params (frameField s.hcFmInterval)
  mem : s.mem.wf = true

/-- The invariants but for the line: what holds before the final line update of a step. -/
structure BlockInv (s : State) : Prop extends StoreInv s where
  timer : s.timerInv

/-- Where a transition out of Operational or into Reset stands once the timer is disarmed. -/
structure DisarmedInv (s : State) : Prop extends StoreInv s where
  sof_le : s.sofTime ≤ s.now
  disarmed : s.timerArmed = false

/-- Where a frame begins, on entering Operational or at a fire, before the timer is armed for it. -/
structure FrameStart (s : State) : Prop extends StoreInv s where
  operational : s.hcfs = .operational
  sof_now : s.sofTime = s.now

/-- Inside a port write, while the port has power. -/
structure PoweredInv (p : PortNo) (s : State) : Prop extends BlockInv s where
  powered : (s.port p).pps = true

theorem registersInv_iff {s : State} : s.registersInv ↔ RegisterInv s := by
  constructor
  · rintro ⟨h1, h2, h3, h4, h5, h6, h7, h8, h9, h10, h11, h12, h13, h14, h15, h16, h17⟩
    exact ⟨h1, h2, h3, h4, h5, h6, h7, h8, h9, h10, h11, h12, h13, h14, h15, h16, h17⟩
  · rintro ⟨h1, h2, h3, h4, h5, h6, h7, h8, h9, h10, h11, h12, h13, h14, h15, h16, h17⟩
    exact ⟨h1, h2, h3, h4, h5, h6, h7, h8, h9, h10, h11, h12, h13, h14, h15, h16, h17⟩

theorem inv_iff {s : State} : s.inv ↔ BlockInv s ∧ s.lineSettled := by
  constructor
  · rintro ⟨hvalid, hreg, ⟨hport1, hport2⟩, htimer, hframe, hline, hmem⟩
    exact ⟨{ registersInv_iff.mp hreg with
      valid := hvalid, port1 := hport1, port2 := hport2, frameTime := hframe, mem := hmem, timer := htimer }, hline⟩
  · rintro ⟨hs, hline⟩
    exact ⟨hs.valid, registersInv_iff.mpr hs.toRegisterInv, ⟨hs.port1, hs.port2⟩, hs.timer, hs.frameTime, hline, hs.mem⟩

theorem updateInterrupt_blockInv {s : State} (hs : BlockInv s) : BlockInv (updateInterrupt s) := by
  rw [updateInterrupt_eq]
  exact { hs with }

theorem updateInterrupt_inv {s : State} (hs : BlockInv s) : (updateInterrupt s).inv :=
  inv_iff.mpr ⟨updateInterrupt_blockInv hs, updateInterrupt_lineSettled s⟩

theorem advance_inv {s : State} (hs : s.inv) : (advance s).inv := hs

/-- R74 with R11: a frame takes at least one tick. -/
theorem frameTime_pos {P : Params} (h : P.valid) (fi : BitVec 14) : 0 < frameTime P fi := by
  obtain ⟨hticks, -⟩ := h
  exact Nat.mul_pos (lt_of_lt_of_le (Nat.succ_pos _) (Nat.le_max_left _ _)) hticks

theorem armTimer_blockInv {s : State} (hs : FrameStart s) : BlockInv (armTimer s.usbFrameTime s) := by
  have hpos : 0 < s.usbFrameTime := hs.frameTime ▸ frameTime_pos hs.valid _
  have hsof := hs.sof_now
  have hdeadline : s.sofTime < s.now + s.usbFrameTime := by omega
  exact { hs with timer := ⟨iff_of_true rfl hs.operational, hsof.le, fun _ => hdeadline⟩ }

theorem DisarmedInv.blockInv {s : State} (hs : DisarmedInv s) (hop : s.hcfs ≠ .operational) : BlockInv s :=
  have harmed : s.timerArmed ≠ true := by simp [hs.disarmed]
  { hs with timer := ⟨iff_of_false harmed hop, hs.sof_le, fun h => absurd h harmed⟩ }

/-! ### Ports keep their invariants -/

theorem Port.inv_withChange {nps : Bool} {q : Port} {b : ChangeBit} (hb : b ≠ .ocic) (hq : q.inv nps) :
    (q.withChange b).inv nps := by
  cases b with
  | ocic => exact absurd rfl hb
  | csc | pesc | pssc | prsc => exact hq

theorem Port.inv_clearChanges {nps : Bool} {q : Port} (w : Word) (hq : q.inv nps) : (q.clearChanges w).inv nps := by
  obtain ⟨hpes, hpss, hprs, hlsda, ⟨hpoci, hocic⟩, hpps⟩ := hq
  exact ⟨hpes, hpss, hprs, hlsda, ⟨hpoci, by simp [Port.clearChanges, hocic]⟩, hpps⟩

theorem Port.inv_powerOff {q : Port} (hq : q.inv false) : q.powerOff.inv false := by
  obtain ⟨-, -, -, hlsda, hoc, -⟩ := hq
  exact ⟨nofun, nofun, nofun, hlsda, hoc, nofun⟩

theorem Port.inv_powerOn {nps : Bool} {q : Port} (hq : q.inv nps) : ({ q with pps := true } : Port).inv nps := by
  obtain ⟨hpes, hpss, hprs, hlsda, hoc, -⟩ := hq
  exact ⟨fun h => ⟨(hpes h).1, rfl⟩, hpss, fun h => ⟨(hprs h).1, rfl⟩, hlsda, hoc, fun _ => rfl⟩

theorem Port.inv_afterReset {nps : Bool} {q : Port} (hq : q.inv nps) : (q.afterReset nps).inv nps := by
  obtain ⟨-, -, -, hlsda, -, -⟩ := hq
  exact ⟨nofun, nofun, nofun, hlsda, ⟨rfl, rfl⟩, id⟩

theorem Port.inv_attached {nps : Bool} {q : Port} (lowSpeed : Bool) (hq : q.inv nps) :
    ({ q with ccs := true, lsda := lowSpeed } : Port).inv nps := by
  obtain ⟨hpes, hpss, hprs, -, hoc, hpps⟩ := hq
  exact ⟨fun h => ⟨rfl, (hpes h).2⟩, hpss, fun h => ⟨rfl, (hprs h).2⟩, fun _ => rfl, hoc, hpps⟩

theorem Port.inv_detached {nps : Bool} {q : Port} (hq : q.inv nps) : q.detached.inv nps := by
  obtain ⟨-, -, -, -, hoc, hpps⟩ := hq
  exact ⟨nofun, nofun, nofun, nofun, hoc, hpps⟩

theorem Port.inv_resetDone {nps : Bool} {q : Port} (hprs : q.prs = true) (hq : q.inv nps) : q.resetDone.inv nps := by
  obtain ⟨-, -, hreset, hlsda, hoc, hpps⟩ := hq
  exact ⟨fun _ => hreset hprs, nofun, nofun, hlsda, hoc, hpps⟩

theorem Port.inv_disabled {nps : Bool} {q : Port} (hq : q.inv nps) :
    ({ q with pes := false, pss := false } : Port).inv nps := by
  obtain ⟨-, -, hprs, hlsda, hoc, hpps⟩ := hq
  exact ⟨nofun, nofun, hprs, hlsda, hoc, hpps⟩

theorem Port.inv_enabled {nps : Bool} {q : Port} (hccs : q.ccs = true) (hpps : q.pps = true) (hq : q.inv nps) :
    ({ q with pes := true } : Port).inv nps := by
  obtain ⟨-, -, hprs, hlsda, hoc, hnps⟩ := hq
  exact ⟨fun _ => ⟨hccs, hpps⟩, fun _ => rfl, hprs, hlsda, hoc, hnps⟩

theorem Port.inv_suspended {nps : Bool} {q : Port} (hpes : q.pes = true) (hq : q.inv nps) :
    ({ q with pss := true } : Port).inv nps := by
  obtain ⟨henabled, -, hprs, hlsda, hoc, hnps⟩ := hq
  exact ⟨henabled, fun _ => hpes, hprs, hlsda, hoc, hnps⟩

theorem Port.inv_resumed {nps : Bool} {q : Port} (hq : q.inv nps) : ({ q with pss := false } : Port).inv nps := by
  obtain ⟨hpes, -, hprs, hlsda, hoc, hnps⟩ := hq
  exact ⟨hpes, nofun, hprs, hlsda, hoc, hnps⟩

theorem Port.inv_resetting {nps : Bool} {q : Port} (due : Nat) (hccs : q.ccs = true) (hpps : q.pps = true)
    (hq : q.inv nps) : ({ q with prs := true, resetDue := due } : Port).inv nps := by
  obtain ⟨hpes, hpss, -, hlsda, hoc, hnps⟩ := hq
  exact ⟨hpes, hpss, fun _ => ⟨hccs, hpps⟩, hlsda, hoc, hnps⟩

@[simp] theorem Port.withChange_pps (q : Port) (b : ChangeBit) : (q.withChange b).pps = q.pps := by cases b <;> rfl

/-! ### Port operations keep the invariants -/

theorem BlockInv.port {s : State} (hs : BlockInv s) (p : PortNo) : (s.port p).inv s.params.nps := by
  cases p
  · exact hs.port1
  · exact hs.port2

theorem modifyPort_blockInv {p : PortNo} {f : Port → Port} {s : State} (hs : BlockInv s)
    (hf : (f (s.port p)).inv s.params.nps) : BlockInv (modifyPort p f s) := by
  cases p
  · exact { hs with port1 := hf }
  · exact { hs with port2 := hf }

@[simp] theorem setInterrupt_port (bits : Word) (s : State) (p : PortNo) : (setInterrupt bits s).port p = s.port p := by
  cases p <;> simp [State.port]

@[simp] theorem raiseChange_port_same (p : PortNo) (b : ChangeBit) (s : State) :
    (raiseChange p b s).port p = (s.port p).withChange b := by simp [raiseChange]

theorem raiseChange_blockInv {p : PortNo} {b : ChangeBit} {s : State} (hb : b ≠ .ocic) (hs : BlockInv s) :
    BlockInv (raiseChange p b s) := by
  have hport : BlockInv (modifyPort p (·.withChange b) s) := modifyPort_blockInv hs (Port.inv_withChange hb (hs.port p))
  rw [raiseChange, setInterrupt_eq]
  exact updateInterrupt_blockInv { hport with hcInterruptStatus := hport.hcInterruptStatus.or (by decide) }

theorem modifyPort_poweredInv {p : PortNo} {f : Port → Port} {s : State} (hs : PoweredInv p s)
    (hf : (f (s.port p)).inv s.params.nps) (hpps : (f (s.port p)).pps = true) : PoweredInv p (modifyPort p f s) :=
  { modifyPort_blockInv hs.toBlockInv hf with powered := by simpa using hpps }

theorem raiseChange_poweredInv {p : PortNo} {b : ChangeBit} {s : State} (hb : b ≠ .ocic) (hs : PoweredInv p s) :
    PoweredInv p (raiseChange p b s) :=
  { raiseChange_blockInv hb hs.toBlockInv with powered := by simpa using hs.powered }

theorem clearPortEnable_poweredInv {p : PortNo} {s : State} (hs : PoweredInv p s) : PoweredInv p (clearPortEnable p s) :=
  modifyPort_poweredInv hs (Port.inv_disabled (hs.port p)) hs.powered

theorem setPortEnable_poweredInv {p : PortNo} {s : State} (hs : PoweredInv p s) : PoweredInv p (setPortEnable p s) := by
  unfold setPortEnable
  split
  · next hccs => exact modifyPort_poweredInv hs (Port.inv_enabled hccs hs.powered (hs.port p)) hs.powered
  · exact raiseChange_poweredInv nofun hs

theorem setPortSuspend_poweredInv {p : PortNo} {s : State} (hs : PoweredInv p s) :
    PoweredInv p (setPortSuspend p s) := by
  unfold setPortSuspend
  split
  · split
    · next hpes => exact modifyPort_poweredInv hs (Port.inv_suspended hpes (hs.port p)) hs.powered
    · exact hs
  · exact raiseChange_poweredInv nofun hs

theorem clearSuspendStatus_poweredInv {p : PortNo} {s : State} (hs : PoweredInv p s) :
    PoweredInv p (clearSuspendStatus p s) := by
  unfold clearSuspendStatus
  split
  · exact raiseChange_poweredInv nofun (modifyPort_poweredInv hs (Port.inv_resumed (hs.port p)) hs.powered)
  · exact hs

theorem setPortReset_poweredInv {p : PortNo} {s : State} (hs : PoweredInv p s) : PoweredInv p (setPortReset p s) := by
  unfold setPortReset
  split
  · next hccs =>
    split
    · exact hs
    · exact modifyPort_poweredInv hs (Port.inv_resetting _ hccs hs.powered (hs.port p)) hs.powered
  · exact raiseChange_poweredInv nofun hs

theorem portCommands_poweredInv {p : PortNo} (w : Word) {s : State} (hs : PoweredInv p s) :
    PoweredInv p (portCommands p w s) := by
  have h0 := whenSet_keeps (b := w.getLsbD 0) hs clearPortEnable_poweredInv
  have h1 := whenSet_keeps (b := w.getLsbD 1) h0 setPortEnable_poweredInv
  have h2 := whenSet_keeps (b := w.getLsbD 2) h1 setPortSuspend_poweredInv
  have h3 := whenSet_keeps (b := w.getLsbD 3) h2 clearSuspendStatus_poweredInv
  exact whenSet_keeps h3 setPortReset_poweredInv

theorem portPowerOff_blockInv (p : PortNo) {s : State} (hs : BlockInv s) : BlockInv (portPowerOff p s) := by
  cases hnps : s.params.nps
  · rw [portPowerOff_switched hnps]
    exact modifyPort_blockInv hs (hnps ▸ Port.inv_powerOff (hnps ▸ hs.port p))
  · rw [portPowerOff_nps hnps]
    exact hs

theorem portPowerOn_blockInv (p : PortNo) {s : State} (hs : BlockInv s) : BlockInv (portPowerOn p s) := by
  cases hnps : s.params.nps
  · rw [portPowerOn_switched hnps]
    exact modifyPort_blockInv hs (Port.inv_powerOn (hs.port p))
  · rw [portPowerOn_nps hnps]
    exact hs

theorem portWrite_blockInv (p : PortNo) (v : Word) {s : State} (hs : BlockInv s) : BlockInv (portWrite p v s) := by
  have hcleared : BlockInv (modifyPort p (Port.clearChanges (v &&& maskPortStatus)) s) :=
    modifyPort_blockInv hs (Port.inv_clearChanges _ (hs.port p))
  refine whenSet_keeps (whenSet_keeps ?_ (portPowerOff_blockInv p)) (portPowerOn_blockInv p)
  split
  · next hpps => exact (portCommands_poweredInv _ { hcleared with powered := hpps }).toBlockInv
  · exact hcleared

theorem writeRhStatusBit_blockInv {i : Nat} {b : Bool} (hb : b = true → Within 0x00008000#32 (bitMask i)) {s : State}
    (hs : BlockInv s) : BlockInv (writeRhStatusBit i b s) :=
  { hs with hcRhStatus := writeBit_within hs.hcRhStatus hb }

theorem rhStatusCommands_blockInv (w : Word) {s : State} (hs : BlockInv s) : BlockInv (rhStatusCommands w s) := by
  have hoff := whenSet_keeps (b := w.getLsbD 0) (f := clearGlobalPower) hs
    fun h => portPowerOff_blockInv .two (portPowerOff_blockInv .one h)
  have hdrwe := whenSet_keeps (b := w.getLsbD 15) hoff (writeRhStatusBit_blockInv (i := 15) (b := true) (by decide))
  have hon := whenSet_keeps (b := w.getLsbD 16) (f := setGlobalPower) hdrwe
    fun h => portPowerOn_blockInv .two (portPowerOn_blockInv .one h)
  have hocic := whenSet_keeps (b := w.getLsbD 17) hon (writeRhStatusBit_blockInv (i := 17) (b := false) nofun)
  exact whenSet_keeps hocic (writeRhStatusBit_blockInv (i := 15) (b := false) nofun)

theorem attachPort_blockInv (p : PortNo) (lowSpeed : Bool) {s : State} (hs : BlockInv s) :
    BlockInv (attachPort p lowSpeed s) := by
  unfold attachPort
  split
  · exact hs
  · exact raiseChange_blockInv nofun (modifyPort_blockInv hs (Port.inv_attached lowSpeed (hs.port p)))

theorem detachPort_blockInv (p : PortNo) {s : State} (hs : BlockInv s) : BlockInv (detachPort p s) := by
  unfold detachPort
  split
  · exact whenSet_keeps (raiseChange_blockInv nofun (modifyPort_blockInv hs (Port.inv_detached (hs.port p))))
      (raiseChange_blockInv nofun)
  · exact hs

theorem portResetDone_blockInv {p : PortNo} {s : State} (he : s.portResetDoneEnabled p = true) (hs : BlockInv s) :
    BlockInv (portResetDone p s) := by
  have hprs : (s.port p).prs = true := (Bool.and_eq_true _ _ |>.mp he).1
  exact whenSet_keeps (raiseChange_blockInv nofun (modifyPort_blockInv hs (Port.inv_resetDone hprs (hs.port p))))
    (raiseChange_blockInv nofun)

/-! ### The state machine keeps the invariants -/

theorem zeroRegisters_registerInv (s : State) : RegisterInv (zeroRegisters s) := by
  constructor <;> exact within_zero _

theorem resetProcedure_blockInv {s : State} (hs : StoreInv s) (hsof : s.sofTime ≤ s.now) :
    BlockInv (resetProcedure s) :=
  have hreset : DisarmedInv (resetProcedure s) :=
    { zeroRegisters_registerInv s with
      valid := hs.valid
      port1 := Port.inv_afterReset hs.port1
      port2 := Port.inv_afterReset hs.port2
      frameTime := rfl
      mem := hs.mem
      sof_le := hsof
      disarmed := rfl }
  hreset.blockInv (show hcfsOf 0#32 ≠ .operational by decide)

theorem leaveOperational_disarmedInv {s : State} (hs : StoreInv s) (hsof : s.sofTime ≤ s.now) :
    DisarmedInv (leaveOperational s) :=
  { hs with hcFmRemaining := liveRemaining_within s, sof_le := hsof, disarmed := rfl }

theorem enterOperational_blockInv {s : State} (hs : StoreInv s) (hop : s.hcfs = .operational) :
    BlockInv (enterOperational s) :=
  armTimer_blockInv (s := { s with sofTime := s.now, hcFmRemaining := reloadValue s.hcFmInterval })
    { hs with hcFmRemaining := reloadValue_within _, operational := hop, sof_now := rfl }

/-- Whatever the old state was, the timer is disarmed once it is left: only Operational has it armed. -/
theorem left_disarmedInv {old : Hcfs} {s : State} (hs : StoreInv s) (hsof : s.sofTime ≤ s.now)
    (harmed : s.timerArmed = true ↔ old = .operational) :
    DisarmedInv (if old = .operational then leaveOperational s else s) := by
  split
  · exact leaveOperational_disarmedInv hs hsof
  · next hold => exact { hs with sof_le := hsof, disarmed := by simpa [hold] using harmed }

theorem writeControl_blockInv (v : Word) {s : State} (hs : BlockInv s) : BlockInv (writeControl v s) := by
  obtain ⟨harmed, hsof, hdeadline⟩ := hs.timer
  have hstored : StoreInv { s with hcControl := v &&& maskControl } := { hs with hcControl := within_store _ v }
  have hleft := left_disarmedInv hstored hsof harmed
  unfold writeControl
  obtain ⟨hsame, heq⟩ | ⟨-, -, heq⟩ | ⟨-, hnew, heq⟩ | ⟨-, hnew, heq⟩ :=
    changeState_cases s.hcfs (hcfsOf (v &&& maskControl)) { s with hcControl := v &&& maskControl }
  all_goals rw [heq]
  · exact { hstored with timer := ⟨harmed.trans (by rw [hsame]; rfl), hsof, hdeadline⟩ }
  · exact resetProcedure_blockInv hleft.toStoreInv hleft.sof_le
  · exact enterOperational_blockInv hstored hnew
  · refine hleft.blockInv ?_
    have hidle : hcfsOf (v &&& maskControl) ≠ .operational := by
      rcases hnew with h | h <;> simp [h]
    split <;> exact hidle

theorem writeCommandStatus_blockInv (v : Word) {s : State} (hs : BlockInv s) : BlockInv (writeCommandStatus v s) := by
  obtain ⟨-, hsof, -⟩ := hs.timer
  unfold writeCommandStatus
  split
  · exact resetProcedure_blockInv hs.toStoreInv hsof
  · next hhcr =>
    have hbits : Within 0x0003000E#32 (v &&& maskCommandStatus) :=
      ((within_store _ v).without (Bool.eq_false_of_not_eq_true hhcr)).mono (by decide)
    exact { hs with hcCommandStatus := hs.hcCommandStatus.or hbits }

theorem construct_inv {s : State} (hvalid : s.params.valid) (hmem : s.mem.wf = true) : (construct s).inv := by
  have hport : ({ pps := s.params.nps } : Port).inv s.params.nps :=
    ⟨nofun, nofun, nofun, nofun, ⟨rfl, rfl⟩, id⟩
  have hstate : DisarmedInv (construct s) :=
    { zeroRegisters_registerInv s.clearOut with
      valid := hvalid
      port1 := hport
      port2 := hport
      frameTime := rfl
      mem := hmem
      sof_le := Nat.zero_le _
      disarmed := rfl }
  exact inv_iff.mpr ⟨hstate.blockInv (show hcfsOf 0#32 ≠ .operational by decide),
    show false = _ by simp [State.intLevel, construct, zeroRegisters]⟩

/-! ### A register write keeps the invariants -/

theorem WriteRule.blockInv {i : Instr} {f : State → State} (hf : WriteRule i f) {s : State} (hs : BlockInv s) :
    BlockInv (f s) := by
  cases hf with
  | wrHcRevision | wrHcFmRemaining | wrHcFmNumber | wrHcRhDescriptorA | wrHcRhDescriptorB | wrMisaligned1
  | wrMisaligned2 | wrMisaligned3 | wrUnmapped => exact hs
  | wrHcControl v => exact writeControl_blockInv v hs
  | wrHcCommandStatus v => exact writeCommandStatus_blockInv v hs
  | wrHcInterruptStatus v => exact { hs with hcInterruptStatus := hs.hcInterruptStatus.and _ }
  | wrHcInterruptEnable v => exact { hs with hcInterrupt := hs.hcInterrupt.or (within_store _ v) }
  | wrHcInterruptDisable v => exact { hs with hcInterrupt := hs.hcInterrupt.and _ }
  | wrHcHCCA v => exact { hs with hcHCCA := within_store _ v }
  | wrHcPeriodCurrentED v => exact { hs with hcPeriodCurrentED := within_store _ v }
  | wrHcControlHeadED v => exact { hs with hcControlHeadED := within_store _ v }
  | wrHcControlCurrentED v => exact { hs with hcControlCurrentED := within_store _ v }
  | wrHcBulkHeadED v => exact { hs with hcBulkHeadED := within_store _ v }
  | wrHcBulkCurrentED v => exact { hs with hcBulkCurrentED := within_store _ v }
  | wrHcDoneHead v => exact { hs with hcDoneHead := within_store _ v }
  | wrHcFmInterval v => exact { hs with hcFmInterval := within_store _ v, frameTime := rfl }
  | wrHcPeriodicStart v => exact { hs with hcPeriodicStart := within_store _ v }
  | wrHcLSThreshold v => exact { hs with hcLSThreshold := within_store _ v }
  | wrHcRhStatus v => exact rhStatusCommands_blockInv _ hs
  | wrHcRhPortStatus1 v => exact portWrite_blockInv .one v hs
  | wrHcRhPortStatus2 v => exact portWrite_blockInv .two v hs

/-! ### A frame fire keeps the invariants -/

theorem fireStart_frameStart {s : State} (hs : BlockInv s) (hop : s.hcfs = .operational) :
    FrameStart (stepReload (stepSOF (stepFrameNumber { s with timerArmed := false }))) := by
  rw [fireStart_eq]
  exact { hs with
    hcFmNumber := writeFN_within hs.hcFmNumber _
    mem := Memory.wf_writeLE _ _ _ _ hs.mem
    hcInterruptStatus := hs.hcInterruptStatus.or (by decide)
    hcFmRemaining := reloadValue_within _
    operational := hop
    sof_now := rfl }

theorem updatedED_within {old : Word} (hold : Within 0xFFFFFFF0#32 old) (new : Option Word) :
    Within 0xFFFFFFF0#32 (updatedED old new) := by
  cases new with
  | none => exact hold
  | some a => exact within_store _ a

theorem listCommandStatus_within (lr : LR) {s : State} (hs : Within 0x0003000E#32 s.hcCommandStatus) :
    Within 0x0003000E#32 (listCommandStatus lr s) := by
  have hcounted : Within 0x0003000E#32
      (if lr.overrun then writeSOC s.hcCommandStatus (s.soc + 1#2) else s.hcCommandStatus) := by
    split
    · exact writeSOC_within hs _
    · exact hs
  have hclear : ∀ (b : Bool) (i : Nat) {v : Word}, Within 0x0003000E#32 v →
      Within 0x0003000E#32 (if b then writeBit v i false else v) := by
    intro b i v hv
    split
    · exact writeBit_within hv nofun
    · exact hv
  exact hclear lr.clearBLF 2 (hclear lr.clearCLF 1 hcounted)

theorem stepLists_frameStart (lr : LR) {s : State} (hs : FrameStart s) : FrameStart (stepLists lr s) := by
  cases hlists : s.listsEnabled
  · rw [stepLists_disabled hlists]
    exact hs
  · have hoverrun : Within 0x00000057#32 (if lr.overrun then bitMask bitSO else 0#32) := by
      split <;> decide
    have herror : Within 0x00000057#32 (if lr.error then bitMask bitUE else 0#32) := by
      split <;> decide
    rw [stepLists_enabled hlists]
    exact { hs with
      hcInterruptStatus := (hs.hcInterruptStatus.or hoverrun).or herror
      hcCommandStatus := listCommandStatus_within lr hs.hcCommandStatus
      hcPeriodCurrentED := updatedED_within hs.hcPeriodCurrentED _
      hcControlCurrentED := updatedED_within hs.hcControlCurrentED _
      hcBulkCurrentED := updatedED_within hs.hcBulkCurrentED _ }

theorem stepDoneHead_frameStart (r : LR) {s : State} (hs : FrameStart s) : FrameStart (stepDoneHead r s) := by
  cases hdone : r.done with
  | none =>
    rw [stepDoneHead_none hdone]
    exact hs
  | some d =>
    rw [stepDoneHead_some hdone]
    exact { hs with
      hcDoneHead := within_store _ d
      mem := Memory.wf_writeLE _ _ _ _ hs.mem
      hcInterruptStatus := hs.hcInterruptStatus.or (by decide) }

theorem frameFire_inv (lr : LR) {s : State} (hs : BlockInv s) (hop : s.hcfs = .operational) : (frameFire lr s).inv :=
  updateInterrupt_inv
    (armTimer_blockInv (stepDoneHead_frameStart _ (stepLists_frameStart lr (fireStart_frameStart hs hop))))

/-! ### Every transaction keeps the invariants -/

theorem Taken.inv {i : Instr} {s t : State} (h : Taken s i t) (hs : s.inv) : t.inv := by
  obtain ⟨hblock, hline⟩ := inv_iff.mp hs
  have hclear : BlockInv s.clearOut := { hblock with }
  obtain ⟨harmed, hsof, hdeadline⟩ := hblock.timer
  cases h with
  | read v => exact hs
  | write hf => exact updateInterrupt_inv (hf.blockInv hclear)
  | fire lr _ he => exact frameFire_inv lr hclear (harmed.mp (Bool.and_eq_true _ _ |>.mp he).1)
  | attach lowSpeed => exact updateInterrupt_inv (attachPort_blockInv _ lowSpeed hclear)
  | detach => exact updateInterrupt_inv (detachPort_blockInv _ hclear)
  | prdone _ _ he => exact updateInterrupt_inv (portResetDone_blockInv he hclear)
  | adv =>
    exact inv_iff.mpr ⟨{ hclear with timer := ⟨harmed, Nat.le_add_right_of_le hsof, hdeadline⟩ }, hline⟩
  | construct => exact construct_inv hblock.valid hblock.mem

/-! ### What no transaction changes -/

theorem attachPort_portFrame (p : PortNo) (lowSpeed : Bool) (s : State) : PortFrame s (attachPort p lowSpeed s) := by
  unfold attachPort
  split
  · exact .refl s
  · exact (modifyPort_portFrame _ _ _).trans (raiseChange_portFrame _ _ _)

theorem detachPort_portFrame (p : PortNo) (s : State) : PortFrame s (detachPort p s) := by
  unfold detachPort
  split
  · exact ((modifyPort_portFrame _ _ _).trans (raiseChange_portFrame _ _ _)).trans
      (whenSet_portFrame (raiseChange_portFrame _ _) _)
  · exact .refl s

theorem portResetDone_portFrame (p : PortNo) (s : State) : PortFrame s (portResetDone p s) :=
  ((modifyPort_portFrame _ _ _).trans (raiseChange_portFrame _ _ _)).trans
    (whenSet_portFrame (raiseChange_portFrame _ _) _)

/-- The parameters, the script, the pc and the time are the same. -/
structure SameSetting (s t : State) : Prop where
  params : t.params = s.params
  script : t.script = s.script
  pc : t.pc = s.pc
  now : t.now = s.now

theorem SameSetting.refl (s : State) : SameSetting s s := ⟨rfl, rfl, rfl, rfl⟩

theorem SameSetting.trans {s t u : State} (h : SameSetting s t) (k : SameSetting t u) : SameSetting s u :=
  ⟨k.params.trans h.params, k.script.trans h.script, k.pc.trans h.pc, k.now.trans h.now⟩

theorem PortFrame.sameSetting {s t : State} (h : PortFrame s t) : SameSetting s t := by
  unfold PortFrame at h
  exact ⟨(congrArg State.params h :), (congrArg State.script h :), (congrArg State.pc h :), (congrArg State.now h :)⟩

theorem updateInterrupt_sameSetting {s t : State} (h : SameSetting s t) : SameSetting s (updateInterrupt t) :=
  h.trans (updateInterrupt_portFrame t).sameSetting

theorem writeRhStatusBit_sameSetting {i : Nat} {b : Bool} {s t : State} (h : SameSetting s t) :
    SameSetting s (writeRhStatusBit i b t) := { h with }

theorem armTimer_sameSetting {d : Nat} {s t : State} (h : SameSetting s t) : SameSetting s (armTimer d t) := { h with }

theorem resetProcedure_sameSetting {s t : State} (h : SameSetting s t) : SameSetting s (resetProcedure t) := { h with }

theorem rhStatusCommands_sameSetting (w : Word) (s : State) : SameSetting s (rhStatusCommands w s) := by
  have hoff := whenSet_portFrame (b := w.getLsbD 0) (f := clearGlobalPower)
    (fun s => (portPowerOff_portFrame .one s).trans (portPowerOff_portFrame .two _)) s
  have hdrwe := whenSet_keeps (b := w.getLsbD 15) (f := writeRhStatusBit 15 true) hoff.sameSetting
    writeRhStatusBit_sameSetting
  have hon := hdrwe.trans (whenSet_portFrame (b := w.getLsbD 16) (f := setGlobalPower)
    (fun s => (portPowerOn_portFrame .one s).trans (portPowerOn_portFrame .two _)) _).sameSetting
  have hocic := whenSet_keeps (b := w.getLsbD 17) (f := writeRhStatusBit 17 false) hon writeRhStatusBit_sameSetting
  exact whenSet_keeps hocic writeRhStatusBit_sameSetting

theorem changeState_sameSetting (old new : Hcfs) (s : State) : SameSetting s (changeState old new s) := by
  have hleft : SameSetting s (if old = .operational then leaveOperational s else s) := by
    split <;> exact ⟨rfl, rfl, rfl, rfl⟩
  obtain ⟨-, heq⟩ | ⟨-, -, heq⟩ | ⟨-, -, heq⟩ | ⟨-, -, heq⟩ := changeState_cases old new s
  all_goals rw [heq]
  · exact .refl s
  · exact resetProcedure_sameSetting hleft
  · exact ⟨rfl, rfl, rfl, rfl⟩
  · exact hleft

theorem writeControl_sameSetting (v : Word) (s : State) : SameSetting s (writeControl v s) :=
  have hstored : SameSetting s { s with hcControl := v &&& maskControl } := ⟨rfl, rfl, rfl, rfl⟩
  hstored.trans (changeState_sameSetting _ _ _)

theorem writeCommandStatus_sameSetting (v : Word) (s : State) : SameSetting s (writeCommandStatus v s) := by
  unfold writeCommandStatus
  split <;> exact ⟨rfl, rfl, rfl, rfl⟩

theorem WriteRule.sameSetting {i : Instr} {f : State → State} (hf : WriteRule i f) (s : State) :
    SameSetting s (f s) := by
  cases hf with
  | wrHcControl v => exact writeControl_sameSetting v s
  | wrHcCommandStatus v => exact writeCommandStatus_sameSetting v s
  | wrHcRhStatus v => exact rhStatusCommands_sameSetting _ s
  | wrHcRhPortStatus1 v => exact (portWrite_portFrame .one v s).sameSetting
  | wrHcRhPortStatus2 v => exact (portWrite_portFrame .two v s).sameSetting
  | _ => exact ⟨rfl, rfl, rfl, rfl⟩

theorem stepLists_sameSetting (lr : LR) (s : State) : SameSetting s (stepLists lr s) := by
  cases hlists : s.listsEnabled
  · rw [stepLists_disabled hlists]
    exact .refl s
  · rw [stepLists_enabled hlists]
    exact ⟨rfl, rfl, rfl, rfl⟩

theorem stepDoneHead_sameSetting (r : LR) (s : State) : SameSetting s (stepDoneHead r s) := by
  cases hdone : r.done with
  | none =>
    rw [stepDoneHead_none hdone]
    exact .refl s
  | some d =>
    rw [stepDoneHead_some hdone]
    exact ⟨rfl, rfl, rfl, rfl⟩

theorem frameFire_sameSetting (lr : LR) (s : State) : SameSetting s (frameFire lr s) := by
  have hstart : SameSetting s (stepReload (stepSOF (stepFrameNumber { s with timerArmed := false }))) :=
    ⟨rfl, rfl, rfl, rfl⟩
  have hlists := hstart.trans (stepLists_sameSetting lr _)
  exact updateInterrupt_sameSetting (armTimer_sameSetting (hlists.trans (stepDoneHead_sameSetting _ _)))

/-- But for the time, which ADV moves on, a transaction keeps the setting. -/
theorem Taken.sameSetting {i : Instr} {s t : State} (h : Taken s i t) :
    SameSetting s t ∨ ∃ d, i = .adv d ∧ SameSetting { s with now := s.now + d } t := by
  have hclear : SameSetting s s.clearOut := ⟨rfl, rfl, rfl, rfl⟩
  cases h with
  | read v => exact .inl ⟨rfl, rfl, rfl, rfl⟩
  | write hf => exact .inl (updateInterrupt_sameSetting (hclear.trans (hf.sameSetting _)))
  | fire lr => exact .inl (hclear.trans (frameFire_sameSetting lr _))
  | attach lowSpeed =>
    exact .inl (updateInterrupt_sameSetting (hclear.trans (attachPort_portFrame _ lowSpeed _).sameSetting))
  | detach => exact .inl (updateInterrupt_sameSetting (hclear.trans (detachPort_portFrame _ _).sameSetting))
  | prdone => exact .inl (updateInterrupt_sameSetting (hclear.trans (portResetDone_portFrame _ _).sameSetting))
  | adv => exact .inr ⟨_, rfl, ⟨rfl, rfl, rfl, rfl⟩⟩
  | construct => exact .inl ⟨rfl, rfl, rfl, rfl⟩

/-! ### The statements -/

/-- Settles O6: every step is a taken transaction with the pc moved on, and each of them keeps the invariants. -/
theorem invariantKeptByStep : Obligations.InvariantKeptByStep := by
  intro s t hs h
  obtain ⟨_, u, -, hu, rfl⟩ := step_next h
  exact advance_inv ((exec_next_taken hu).inv hs)

/-- Settles O57: every taken transaction keeps the setting, ADV all of it but the time. -/
theorem parametersScriptAndTime : Obligations.ParametersScriptAndTime := by
  intro i s t h
  obtain hsame | ⟨d, rfl, hsame⟩ := (exec_next_taken h).sameSetting
  · exact ⟨⟨hsame.params, hsame.script, hsame.pc⟩, hsame.now.ge, fun hne => absurd hsame.now hne⟩
  · exact ⟨⟨hsame.params, hsame.script, hsame.pc⟩, hsame.now ▸ Nat.le_add_right _ _, fun _ => ⟨d, rfl, hsame.now⟩⟩

/-- Settles O60: CONSTRUCT zeroes every register and leaves both ports without a device and the timer disarmed. -/
theorem invariantAtConstruction : Obligations.InvariantAtConstruction := by
  intro s hc hvalid hmem
  exact ⟨construct s, by simp [exec, execConstruct, hc], construct_inv hvalid hmem⟩

/-- Settles O1: the transaction the script holds at the pc is the one `step` fetches. -/
theorem stepRunsDecodedTransaction : Obligations.StepRunsDecodedTransaction := by
  intro s t hfetch
  have hstep : step s = stepAnswer (exec (decode t) s) := by simp [step, fetch, hfetch]
  rw [hstep]
  cases exec (decode t) s <;> rfl

/-- Settles O7: the state after reset is what CONSTRUCT leaves of one with the parameters of I0. -/
theorem invariantAtReset : Obligations.InvariantAtReset :=
  construct_inv (s := State.unconstructed) (by decide) rfl

end Sys2Proof.Machine

/-! PROOFS of the family 10_state.md: what sets and clears the status bits, what writes guest memory and FN, what changes
the connect status, and the fields no rule reads. The inversion `exec_next_taken` gives the cases of the first three; the
last compares whole answers, since it also speaks of the steps not taken. -/

namespace Sys2Proof.Machine

open Sys2Proof

/-! ### Frames of the state machine and of the ports -/

/-- The states that differ from `s` in HCFS with its register, the countdown, the timer and the outputs only: what a
transition other than into Reset can reach. -/
def ControlFrame (s t : State) : Prop :=
  { t with
    hcControl := s.hcControl, hcFmRemaining := s.hcFmRemaining, timerArmed := s.timerArmed
    timerDeadline := s.timerDeadline, sofTime := s.sofTime, out := s.out } = s

theorem ControlFrame.ports {s t : State} (h : ControlFrame s t) (p : PortNo) : t.port p = s.port p := by
  unfold ControlFrame at h
  cases p
  · exact (congrArg State.port1 h :)
  · exact (congrArg State.port2 h :)

theorem ControlFrame.hcInterruptStatus {s t : State} (h : ControlFrame s t) :
    t.hcInterruptStatus = s.hcInterruptStatus := by
  unfold ControlFrame at h
  exact (congrArg State.hcInterruptStatus h :)

theorem ControlFrame.mem {s t : State} (h : ControlFrame s t) : t.mem = s.mem := by
  unfold ControlFrame at h
  exact (congrArg State.mem h :)

theorem ControlFrame.hcFmNumber {s t : State} (h : ControlFrame s t) : t.hcFmNumber = s.hcFmNumber := by
  unfold ControlFrame at h
  exact (congrArg State.hcFmNumber h :)

theorem hcfsOf_eq_reset_iff (control : Word) : hcfsOf control = .reset ↔ control.extractLsb' 6 2 = 0#2 := by
  unfold hcfsOf Hcfs.ofBits
  split
  · simp_all
  · split
    · simp_all
    · split <;> simp_all

/-- A write of HcControl runs the Reset procedure exactly when `resets` says so (R321, R325). -/
theorem writeControl_cases (v : Word) (s : State) :
    (resets (.wrHcControl v) s = true ∧ ∃ u, ControlFrame s u ∧ writeControl v s = resetProcedure u)
      ∨ (resets (.wrHcControl v) s = false ∧ ControlFrame s (writeControl v s)) := by
  have hbits : (v &&& maskControl).extractLsb' 6 2 = v.extractLsb' 6 2 := by
    refine BitVec.eq_of_getLsbD_eq fun i hi => ?_
    interval_cases i <;> simp [maskControl]
  have hnew : hcfsOf (v &&& maskControl) = .reset ↔ v.extractLsb' 6 2 = 0#2 := by rw [hcfsOf_eq_reset_iff, hbits]
  have hleft : ControlFrame s (if s.hcfs = .operational then leaveOperational { s with hcControl := v &&& maskControl }
      else { s with hcControl := v &&& maskControl }) := by
    split <;> rfl
  unfold writeControl
  obtain ⟨hsame, heq⟩ | ⟨hne, hreset, heq⟩ | ⟨-, hop, heq⟩ | ⟨-, hidle, heq⟩ :=
    changeState_cases s.hcfs (hcfsOf (v &&& maskControl)) { s with hcControl := v &&& maskControl }
  all_goals rw [heq]
  · exact .inr ⟨by simp [resets, ← hnew, hsame], rfl⟩
  · exact .inl ⟨by simpa [resets, ← hnew, hreset] using hne, _, hleft, rfl⟩
  · exact .inr ⟨by simp [resets, ← hnew, hop], rfl⟩
  · exact .inr ⟨by rcases hidle with h | h <;> simp [resets, ← hnew, h], hleft⟩

/-- A write of HcCommandStatus resets exactly on HCR (R185). -/
theorem writeCommandStatus_cases (v : Word) (s : State) :
    (resets (.wrHcCommandStatus v) s = true ∧ writeCommandStatus v s = resetProcedure s)
      ∨ (resets (.wrHcCommandStatus v) s = false
        ∧ writeCommandStatus v s = { s with hcCommandStatus := s.hcCommandStatus ||| (v &&& maskCommandStatus) }) := by
  have hhcr : (v &&& maskCommandStatus).getLsbD 0 = v.getLsbD 0 := by simp [maskCommandStatus]
  cases h : v.getLsbD 0
  · exact .inr ⟨h, if_neg (by rw [hhcr, h]; decide)⟩
  · exact .inl ⟨h, if_pos (hhcr.trans h)⟩

/-! ### Status bits gained -/

theorem bitMask_getLsbD {i : Nat} (hi : i < 32) (k : Nat) : (bitMask i).getLsbD k = decide (i = k) := by
  simp [bitMask, ← BitVec.twoPow_eq, BitVec.getLsbD_twoPow, hi]

/-- The status bits of `t` are those of `s` with some bits of the mask `m` more. -/
def Gains (m : Word) (s t : State) : Prop :=
  ∃ bits, Within m bits ∧ t.hcInterruptStatus = s.hcInterruptStatus ||| bits

theorem Gains.of_eq {m : Word} {s t : State} (h : t.hcInterruptStatus = s.hcInterruptStatus) : Gains m s t :=
  ⟨0#32, within_zero m, by simp [h]⟩

theorem Gains.trans {m : Word} {s t u : State} (h : Gains m s t) (k : Gains m t u) : Gains m s u := by
  obtain ⟨b, hb, hst⟩ := h
  obtain ⟨c, hc, htu⟩ := k
  exact ⟨b ||| c, hb.or hc, by rw [htu, hst, BitVec.or_assoc]⟩

theorem Gains.mono {m n : Word} {s t : State} (h : Gains m s t) (hmn : Within n m) : Gains n s t := by
  obtain ⟨bits, hbits, heq⟩ := h
  exact ⟨bits, hbits.mono hmn, heq⟩

/-- A bit that is gained is in the mask. -/
theorem Gains.mem_mask {m : Word} {s t : State} {k : Nat} (h : Gains m s t)
    (hs : s.hcInterruptStatus.getLsbD k = false) (ht : t.hcInterruptStatus.getLsbD k = true) : m.getLsbD k = true := by
  obtain ⟨bits, hbits, heq⟩ := h
  have hk : bits.getLsbD k = true := by simpa [heq, hs] using ht
  exact within_iff.mp hbits k (BitVec.lt_of_getLsbD hk) hk

/-- No bit is lost. -/
theorem Gains.keeps {m : Word} {s t : State} {k : Nat} (h : Gains m s t)
    (hs : s.hcInterruptStatus.getLsbD k = true) : t.hcInterruptStatus.getLsbD k = true := by
  obtain ⟨bits, -, heq⟩ := h
  simp [heq, hs]

theorem raiseChange_gains (p : PortNo) (b : ChangeBit) (s : State) : Gains (bitMask bitRHSC) s (raiseChange p b s) :=
  ⟨bitMask bitRHSC &&& maskStatus, by decide, by simp [raiseChange]⟩

theorem modifyPort_gains (m : Word) (p : PortNo) (f : Port → Port) (s : State) : Gains m s (modifyPort p f s) :=
  .of_eq (by simp)

/-! ### What a port command keeps -/

/-- What every command of a port write keeps: the connect status of both ports, and all status bits but for RHSC
gained. -/
structure PortKept (s t : State) : Prop where
  ccs : ∀ p, (t.port p).ccs = (s.port p).ccs
  status : Gains (bitMask bitRHSC) s t

theorem PortKept.refl (s : State) : PortKept s s := ⟨fun _ => rfl, .of_eq rfl⟩

theorem PortKept.trans {s t u : State} (h : PortKept s t) (k : PortKept t u) : PortKept s u :=
  ⟨fun p => (k.ccs p).trans (h.ccs p), h.status.trans k.status⟩

@[simp] theorem Port.withChange_ccs (q : Port) (b : ChangeBit) : (q.withChange b).ccs = q.ccs := by cases b <;> rfl

theorem modifyPort_ccs {p : PortNo} {f : Port → Port} (hf : ∀ q, (f q).ccs = q.ccs) (s : State) (r : PortNo) :
    ((modifyPort p f s).port r).ccs = (s.port r).ccs := by
  by_cases hr : r = p
  · subst hr
    rw [modifyPort_port_same, hf]
  · rw [modifyPort_port_other p r f s hr]

theorem modifyPort_portKept (p : PortNo) (f : Port → Port) (s : State)
    (hf : ∀ q, (f q).ccs = q.ccs := by intro; rfl) : PortKept s (modifyPort p f s) :=
  ⟨modifyPort_ccs hf s, modifyPort_gains _ p f s⟩

theorem raiseChange_portKept (p : PortNo) (b : ChangeBit) (s : State) : PortKept s (raiseChange p b s) where
  ccs r := by
    rw [raiseChange, setInterrupt_port]
    exact modifyPort_ccs (fun q => q.withChange_ccs b) s r
  status := raiseChange_gains p b s

/-- What the power commands keep: the connect status of both ports, and all but the ports and HcRhStatus. -/
structure PowerKept (s t : State) : Prop where
  ccs : ∀ p, (t.port p).ccs = (s.port p).ccs
  rest : { t with port1 := s.port1, port2 := s.port2, hcRhStatus := s.hcRhStatus } = s

theorem PowerKept.refl (s : State) : PowerKept s s := ⟨fun _ => rfl, rfl⟩

theorem PowerKept.trans {s t u : State} (h : PowerKept s t) (k : PowerKept t u) : PowerKept s u where
  ccs p := (k.ccs p).trans (h.ccs p)
  rest :=
    calc { u with port1 := s.port1, port2 := s.port2, hcRhStatus := s.hcRhStatus }
      _ = { t with port1 := s.port1, port2 := s.port2, hcRhStatus := s.hcRhStatus } :=
        (congrArg (fun x : State => { x with port1 := s.port1, port2 := s.port2, hcRhStatus := s.hcRhStatus }) k.rest :)
      _ = s := h.rest

theorem PowerKept.hcInterruptStatus {s t : State} (h : PowerKept s t) : t.hcInterruptStatus = s.hcInterruptStatus :=
  (congrArg State.hcInterruptStatus h.rest :)

theorem PowerKept.mem {s t : State} (h : PowerKept s t) : t.mem = s.mem := (congrArg State.mem h.rest :)

theorem PowerKept.hcFmNumber {s t : State} (h : PowerKept s t) : t.hcFmNumber = s.hcFmNumber :=
  (congrArg State.hcFmNumber h.rest :)

theorem PowerKept.portKept {s t : State} (h : PowerKept s t) : PortKept s t := ⟨h.ccs, .of_eq h.hcInterruptStatus⟩

theorem modifyPort_powerKept (p : PortNo) (f : Port → Port) (s : State)
    (hf : ∀ q, (f q).ccs = q.ccs := by intro; rfl) : PowerKept s (modifyPort p f s) :=
  ⟨modifyPort_ccs hf s, by cases p <;> rfl⟩

theorem portPowerOff_powerKept (p : PortNo) (s : State) : PowerKept s (portPowerOff p s) := by
  unfold portPowerOff
  split
  · exact .refl s
  · exact modifyPort_powerKept p _ s

theorem portPowerOn_powerKept (p : PortNo) (s : State) : PowerKept s (portPowerOn p s) := by
  unfold portPowerOn
  split
  · exact .refl s
  · exact modifyPort_powerKept p _ s

theorem writeRhStatusBit_powerKept (i : Nat) (b : Bool) (s : State) : PowerKept s (writeRhStatusBit i b s) :=
  ⟨fun _ => rfl, rfl⟩

theorem whenSet_powerKept {b : Bool} {f : State → State} (hf : ∀ s, PowerKept s (f s)) (s : State) :
    PowerKept s (whenSet b f s) := by
  cases b
  · exact .refl s
  · exact hf s

/-- A write of HcRhStatus is power commands and two stored bits (R275). -/
theorem rhStatusCommands_powerKept (w : Word) (s : State) : PowerKept s (rhStatusCommands w s) := by
  have hoff : ∀ s, PowerKept s (clearGlobalPower s) :=
    fun s => (portPowerOff_powerKept .one s).trans (portPowerOff_powerKept .two _)
  have hon : ∀ s, PowerKept s (setGlobalPower s) :=
    fun s => (portPowerOn_powerKept .one s).trans (portPowerOn_powerKept .two _)
  exact ((((whenSet_powerKept hoff s).trans (whenSet_powerKept (writeRhStatusBit_powerKept 15 true) _)).trans
    (whenSet_powerKept hon _)).trans (whenSet_powerKept (writeRhStatusBit_powerKept 17 false) _)).trans
    (whenSet_powerKept (writeRhStatusBit_powerKept 15 false) _)

theorem whenSet_portKept {b : Bool} {f : State → State} (hf : ∀ s, PortKept s (f s)) (s : State) :
    PortKept s (whenSet b f s) := by
  cases b
  · exact .refl s
  · exact hf s

theorem clearPortEnable_portKept (p : PortNo) (s : State) : PortKept s (clearPortEnable p s) :=
  modifyPort_portKept p _ s

theorem setPortEnable_portKept (p : PortNo) (s : State) : PortKept s (setPortEnable p s) := by
  unfold setPortEnable
  split
  · exact modifyPort_portKept p _ s
  · exact raiseChange_portKept p .csc s

theorem setPortSuspend_portKept (p : PortNo) (s : State) : PortKept s (setPortSuspend p s) := by
  unfold setPortSuspend
  split
  · split
    · exact modifyPort_portKept p _ s
    · exact .refl s
  · exact raiseChange_portKept p .csc s

theorem clearSuspendStatus_portKept (p : PortNo) (s : State) : PortKept s (clearSuspendStatus p s) := by
  unfold clearSuspendStatus
  split
  · exact (modifyPort_portKept p _ s).trans (raiseChange_portKept p .pssc _)
  · exact .refl s

theorem setPortReset_portKept (p : PortNo) (s : State) : PortKept s (setPortReset p s) := by
  unfold setPortReset
  split
  · split
    · exact .refl s
    · exact modifyPort_portKept p _ s
  · exact raiseChange_portKept p .csc s

theorem portCommands_portKept (p : PortNo) (w : Word) (s : State) : PortKept s (portCommands p w s) :=
  ((((whenSet_portKept (clearPortEnable_portKept p) s).trans (whenSet_portKept (setPortEnable_portKept p) _)).trans
    (whenSet_portKept (setPortSuspend_portKept p) _)).trans (whenSet_portKept (clearSuspendStatus_portKept p) _)).trans
    (whenSet_portKept (setPortReset_portKept p) _)

theorem portWrite_portKept (p : PortNo) (v : Word) (s : State) : PortKept s (portWrite p v s) := by
  have hcleared := modifyPort_portKept p (Port.clearChanges (v &&& maskPortStatus)) s
  refine PortKept.trans ?_ ((whenSet_powerKept (portPowerOff_powerKept p) _).trans
    (whenSet_powerKept (portPowerOn_powerKept p) _)).portKept
  split
  · exact hcleared.trans (portCommands_portKept p _ _)
  · exact hcleared

/-! ### Register writes, on the connect status, the bytes written and FN -/

@[simp] theorem resetProcedure_ccs (s : State) (p : PortNo) : ((resetProcedure s).port p).ccs = (s.port p).ccs := by
  cases p <;> rfl

theorem WriteRule.ccs {i : Instr} {f : State → State} (hf : WriteRule i f) (s : State) (p : PortNo) :
    ((f s).port p).ccs = (s.port p).ccs := by
  cases hf with
  | wrHcControl v =>
    obtain ⟨-, u, hu, heq⟩ | ⟨-, hframe⟩ := writeControl_cases v s
    · rw [heq, resetProcedure_ccs, hu.ports]
    · rw [hframe.ports]
  | wrHcCommandStatus v =>
    obtain ⟨-, heq⟩ | ⟨-, heq⟩ := writeCommandStatus_cases v s
    · rw [heq, resetProcedure_ccs]
    · rw [heq]
      cases p <;> rfl
  | wrHcRhStatus v => exact (rhStatusCommands_powerKept _ s).ccs p
  | wrHcRhPortStatus1 v => exact (portWrite_portKept .one v s).ccs p
  | wrHcRhPortStatus2 v => exact (portWrite_portKept .two v s).ccs p
  | _ => cases p <;> rfl

/-- A port operation leaves the bytes written and FN as they were. -/
theorem PortFrame.mem_hcFmNumber {s t : State} (h : PortFrame s t) : t.mem = s.mem ∧ t.hcFmNumber = s.hcFmNumber := by
  unfold PortFrame at h
  exact ⟨(congrArg State.mem h :), (congrArg State.hcFmNumber h :)⟩

/-- A register write writes no guest memory, and FN only in the Reset procedure. -/
theorem WriteRule.mem_hcFmNumber {i : Instr} {f : State → State} (hf : WriteRule i f) (s : State) :
    (f s).mem = s.mem ∧ ((f s).hcFmNumber = s.hcFmNumber ∨ (resets i s = true ∧ (f s).hcFmNumber = 0#32)) := by
  cases hf with
  | wrHcControl v =>
    obtain ⟨hreset, u, hu, heq⟩ | ⟨-, hframe⟩ := writeControl_cases v s
    · rw [heq]
      exact ⟨hu.mem, .inr ⟨hreset, rfl⟩⟩
    · exact ⟨hframe.mem, .inl hframe.hcFmNumber⟩
  | wrHcCommandStatus v =>
    obtain ⟨hreset, heq⟩ | ⟨-, heq⟩ := writeCommandStatus_cases v s
    · rw [heq]
      exact ⟨rfl, .inr ⟨hreset, rfl⟩⟩
    · rw [heq]
      exact ⟨rfl, .inl rfl⟩
  | wrHcRhStatus v =>
    have hkept := rhStatusCommands_powerKept (v &&& maskRhStatus) s
    exact ⟨hkept.mem, .inl hkept.hcFmNumber⟩
  | wrHcRhPortStatus1 v => exact (portWrite_portFrame .one v s).mem_hcFmNumber.imp id .inl
  | wrHcRhPortStatus2 v => exact (portWrite_portFrame .two v s).mem_hcFmNumber.imp id .inl
  | _ => exact ⟨rfl, .inl rfl⟩

/-! ### Where the status bits come from -/

/-- The status bits an instruction may set (R403). -/
def statusSources : Instr → Word
  | .fire lr =>
    bitMask bitSF ||| ((if lr.overrun then bitMask bitSO else 0#32) ||| (if lr.error then bitMask bitUE else 0#32))
      ||| (if lr.done.isSome then bitMask bitWDH else 0#32)
  | .wrHcRhPortStatus1 _ => bitMask bitRHSC
  | .wrHcRhPortStatus2 _ => bitMask bitRHSC
  | .attach _ _ => bitMask bitRHSC
  | .detach _ => bitMask bitRHSC
  | .prdone _ => bitMask bitRHSC
  | _ => 0#32

/-- The table of R403: each status bit with the instructions that may set it. -/
theorem statusSources_bit {i : Instr} {k : Nat} (h : (statusSources i).getLsbD k = true) :
    (k = 0 ∧ ∃ lr : LR, i = .fire lr ∧ lr.overrun = true)
      ∨ (k = 1 ∧ ∃ lr : LR, i = .fire lr ∧ lr.done.isSome = true)
      ∨ (k = 2 ∧ ∃ lr : LR, i = .fire lr)
      ∨ (k = 4 ∧ ∃ lr : LR, i = .fire lr ∧ lr.error = true)
      ∨ (k = 6 ∧ ((∃ v, i = .wrHcRhPortStatus1 v) ∨ (∃ v, i = .wrHcRhPortStatus2 v)
          ∨ (∃ p l, i = .attach p l) ∨ (∃ p, i = .detach p) ∨ ∃ p, i = .prdone p)) := by
  have hbit : ∀ {j : Nat}, j < 32 → (bitMask j).getLsbD k = true → k = j := by
    intro j hj hk
    simpa [bitMask_getLsbD hj, eq_comm] using hk
  have hif : ∀ {j : Nat} {b : Bool}, j < 32 → (if b then bitMask j else 0#32).getLsbD k = true → k = j ∧ b = true := by
    intro j b hj hk
    cases b
    · simp at hk
    · exact ⟨hbit hj hk, rfl⟩
  unfold statusSources at h
  split at h
  · next lr =>
    simp only [BitVec.getLsbD_or, Bool.or_eq_true] at h
    rcases h with (hsf | hso | hue) | hwdh
    · exact .inr (.inr (.inl ⟨hbit (by decide) hsf, lr, rfl⟩))
    · obtain ⟨hk, hlr⟩ := hif (by decide) hso
      exact .inl ⟨hk, lr, rfl, hlr⟩
    · obtain ⟨hk, hlr⟩ := hif (by decide) hue
      exact .inr (.inr (.inr (.inl ⟨hk, lr, rfl, hlr⟩)))
    · obtain ⟨hk, hlr⟩ := hif (by decide) hwdh
      exact .inr (.inl ⟨hk, lr, rfl, hlr⟩)
  · exact .inr (.inr (.inr (.inr ⟨hbit (by decide) h, .inl ⟨_, rfl⟩⟩)))
  · exact .inr (.inr (.inr (.inr ⟨hbit (by decide) h, .inr (.inl ⟨_, rfl⟩)⟩)))
  · exact .inr (.inr (.inr (.inr ⟨hbit (by decide) h, .inr (.inr (.inl ⟨_, _, rfl⟩))⟩)))
  · exact .inr (.inr (.inr (.inr ⟨hbit (by decide) h, .inr (.inr (.inr (.inl ⟨_, rfl⟩)))⟩)))
  · exact .inr (.inr (.inr (.inr ⟨hbit (by decide) h, .inr (.inr (.inr (.inr ⟨_, rfl⟩)))⟩)))
  · simp at h

theorem within_or_left (x y : Word) : Within (x ||| y) x :=
  within_iff.mpr fun _ _ h => by simp_all

theorem within_or_right (x y : Word) : Within (x ||| y) y :=
  within_iff.mpr fun _ _ h => by simp_all

theorem stepLists_gains (lr : LR) (s : State) :
    Gains ((if lr.overrun then bitMask bitSO else 0#32) ||| (if lr.error then bitMask bitUE else 0#32)) s
      (stepLists lr s) := by
  cases hlists : s.listsEnabled
  · rw [stepLists_disabled hlists]
    exact .of_eq rfl
  · rw [stepLists_enabled hlists]
    exact ⟨_, BitVec.and_not_self _, BitVec.or_assoc _ _ _⟩

/-- The done head that counts is the answer's, or none when no list is enabled. -/
theorem stepDoneHead_gains (lr : LR) (s u : State) :
    Gains (if lr.done.isSome then bitMask bitWDH else 0#32) u (stepDoneHead (effectiveAnswer lr s) u) := by
  cases hdone : (effectiveAnswer lr s).done with
  | none =>
    rw [stepDoneHead_none hdone]
    exact .of_eq rfl
  | some d =>
    have hlists : s.listsEnabled = true := by
      by_contra hlists
      simp [effectiveAnswer, hlists, LR.nothing] at hdone
    rw [effectiveAnswer_enabled hlists] at hdone
    rw [effectiveAnswer_enabled hlists, stepDoneHead_some hdone, hdone]
    exact ⟨bitMask bitWDH, BitVec.and_not_self _, rfl⟩

/-- SF with every fire, SO and UE as the lists report them, WDH with a done head (R353, R356, R357). -/
theorem frameFire_gains (lr : LR) (s : State) : Gains (statusSources (.fire lr)) s (frameFire lr s) := by
  have hstart : Gains (statusSources (.fire lr)) s
      (stepReload (stepSOF (stepFrameNumber { s with timerArmed := false }))) :=
    ⟨bitMask bitSF, (within_or_left _ _).mono (within_or_left _ _), rfl⟩
  have hlists := hstart.trans ((stepLists_gains lr _).mono ((within_or_right _ _).mono (within_or_left _ _)))
  have hdone := fun asked => hlists.trans ((stepDoneHead_gains lr asked _).mono (within_or_right _ _))
  exact (hdone _).trans (.of_eq (updateInterrupt_hcInterruptStatus _))

theorem attachPort_gains (p : PortNo) (lowSpeed : Bool) (s : State) :
    Gains (bitMask bitRHSC) s (attachPort p lowSpeed s) := by
  unfold attachPort
  split
  · exact .of_eq rfl
  · exact (modifyPort_gains _ _ _ _).trans (raiseChange_gains _ _ _)

theorem detachPort_gains (p : PortNo) (s : State) : Gains (bitMask bitRHSC) s (detachPort p s) := by
  unfold detachPort
  split
  · exact ((modifyPort_gains _ _ _ _).trans (raiseChange_gains _ _ _)).trans
      (whenSet_portKept (raiseChange_portKept _ _) _).status
  · exact .of_eq rfl

theorem portResetDone_gains (p : PortNo) (s : State) : Gains (bitMask bitRHSC) s (portResetDone p s) :=
  ((modifyPort_gains _ _ _ _).trans (raiseChange_gains _ _ _)).trans
    (whenSet_portKept (raiseChange_portKept _ _) _).status

/-- What a transaction does to the status bits: it sets bits it is a source of, or clears bits written at
HcInterruptStatus, or zeroes them in the Reset procedure. -/
inductive StatusChange (i : Instr) (s t : State) : Prop
  | gained (h : Gains (statusSources i) s t)
  | cleared (v : Word) (hi : i = .wrHcInterruptStatus v)
      (h : t.hcInterruptStatus = s.hcInterruptStatus &&& ~~~(v &&& maskStatus))
  | zeroed (hreset : resets i s = true) (h : t.hcInterruptStatus = 0#32)

theorem resets_clearOut (i : Instr) (s : State) : resets i s.clearOut = resets i s := by
  unfold resets
  rfl

/-- Only the bits before and after count: neither the fresh output list nor the final line update changes one. -/
theorem StatusChange.of_clearOut {i : Instr} {s t : State} (h : StatusChange i s.clearOut t) :
    StatusChange i s (updateInterrupt t) := by
  cases h with
  | gained h => exact .gained (Gains.trans (s := s) h (.of_eq (by simp)))
  | cleared v hi h => exact .cleared v hi (by simpa using h)
  | zeroed hreset h => exact .zeroed (resets_clearOut i s ▸ hreset) (by simpa using h)

theorem WriteRule.statusChange {i : Instr} {f : State → State} (hf : WriteRule i f) (s : State) :
    StatusChange i s (f s) := by
  cases hf with
  | wrHcControl v =>
    obtain ⟨hreset, u, -, heq⟩ | ⟨-, hframe⟩ := writeControl_cases v s
    · exact .zeroed hreset (by rw [heq]; rfl)
    · exact .gained (.of_eq hframe.hcInterruptStatus)
  | wrHcCommandStatus v =>
    obtain ⟨hreset, heq⟩ | ⟨-, heq⟩ := writeCommandStatus_cases v s
    · exact .zeroed hreset (by rw [heq]; rfl)
    · exact .gained (.of_eq (by rw [heq]))
  | wrHcInterruptStatus v => exact .cleared v rfl rfl
  | wrHcRhStatus v => exact .gained (.of_eq (rhStatusCommands_powerKept _ s).hcInterruptStatus)
  | wrHcRhPortStatus1 v => exact .gained (portWrite_portKept .one v s).status
  | wrHcRhPortStatus2 v => exact .gained (portWrite_portKept .two v s).status
  | _ => exact .gained (.of_eq rfl)

theorem Taken.statusChange {i : Instr} {s t : State} (h : Taken s i t) (hc : s.constructed = true) :
    StatusChange i s t := by
  cases h with
  | read v => exact .gained (.of_eq rfl)
  | write hf => exact (hf.statusChange s.clearOut).of_clearOut
  | fire lr => exact .gained (Gains.trans (t := s.clearOut) (.of_eq rfl) (frameFire_gains lr _))
  | attach lowSpeed => exact .of_clearOut (.gained (attachPort_gains _ lowSpeed _))
  | detach => exact .of_clearOut (.gained (detachPort_gains _ _))
  | prdone => exact .of_clearOut (.gained (portResetDone_gains _ _))
  | adv => exact .gained (.of_eq rfl)
  | construct hn => simp [hc] at hn

/-- Settles O27: a bit gained is one the instruction is a source of, and a bit lost was written away or reset away. -/
theorem statusBitSources : Obligations.StatusBitSources := by
  intro i s t k hc h
  obtain hgains | ⟨v, rfl, hstatus⟩ | ⟨hreset, hstatus⟩ := (exec_next_taken h).statusChange hc
  · exact ⟨fun hs ht => statusSources_bit (hgains.mem_mask hs ht), fun hs ht => by simp [hgains.keeps hs] at ht⟩
  · rw [hstatus]
    refine ⟨fun hs ht => by simp [hs] at ht, fun hs ht => .inl ⟨v, rfl, ?_⟩⟩
    by_contra hv
    simp only [BitVec.getLsbD_and, BitVec.getLsbD_not, hs, Bool.eq_false_of_not_eq_true hv,
      BitVec.lt_of_getLsbD hs] at ht
    simp at ht
  · rw [hstatus]
    exact ⟨fun _ ht => by simp at ht, fun _ _ => .inr hreset⟩

/-! ### What attaching and detaching do to the connect status -/

theorem updateInterrupt_port (s : State) (p : PortNo) : (updateInterrupt s).port p = s.port p := by
  cases p <;> simp [State.port]

theorem attachPort_ccs (q p : PortNo) (lowSpeed : Bool) (s : State) :
    ((attachPort q lowSpeed s).port p).ccs = ((s.port p).ccs || decide (p = q)) := by
  by_cases hp : p = q
  · subst hp
    unfold attachPort
    split
    · simp_all
    · simp
  · unfold attachPort
    split
    · simp [hp]
    · rw [(raiseChange_portKept _ _ _).ccs, modifyPort_port_other q p _ s hp]
      simp [hp]

theorem detachPort_ccs (q p : PortNo) (s : State) :
    ((detachPort q s).port p).ccs = ((s.port p).ccs && !decide (p = q)) := by
  by_cases hp : p = q
  · subst hp
    unfold detachPort
    split
    · rw [(whenSet_portKept (raiseChange_portKept _ _) _).ccs, (raiseChange_portKept _ _ _).ccs, modifyPort_port_same]
      simp [Port.detached]
    · simp_all
  · unfold detachPort
    split
    · rw [(whenSet_portKept (raiseChange_portKept _ _) _).ccs, (raiseChange_portKept _ _ _).ccs,
        modifyPort_port_other q p _ s hp]
      simp [hp]
    · simp [hp]

theorem portResetDone_portKept (q : PortNo) (s : State) : PortKept s (portResetDone q s) :=
  ((modifyPort_portKept q _ s).trans (raiseChange_portKept _ _ _)).trans (whenSet_portKept (raiseChange_portKept _ _) _)

theorem ofOperand_eq_some_iff {n : Nat} {q : PortNo} :
    PortNo.ofOperand n = some q ↔ (n = 1 ∧ q = .one) ∨ (n = 2 ∧ q = .two) := by
  unfold PortNo.ofOperand
  split
  · next h => simp [h, eq_comm]
  · split
    · next h => simp [h, eq_comm]
    · next h1 h2 => simp [h1, h2]

/-- The connect status of port `p` after an instruction, from the one before: set by an attach of the port and cleared
by a detach of it (R62). -/
def connectAfter (p : PortNo) (old : Bool) : Instr → Bool
  | .attach n _ => old || decide (PortNo.ofOperand n = some p)
  | .detach n => old && !decide (PortNo.ofOperand n = some p)
  | _ => old

theorem connectAfter_of_isRead {i : Instr} (hi : isRead i = true) (p : PortNo) (old : Bool) :
    connectAfter p old i = old := by
  unfold connectAfter
  split
  · cases hi
  · cases hi
  · rfl

theorem WriteRule.connectAfter {i : Instr} {f : State → State} (hf : WriteRule i f) (p : PortNo) (old : Bool) :
    connectAfter p old i = old := by
  cases hf <;> rfl

theorem stepLists_port (lr : LR) (s : State) (p : PortNo) : (stepLists lr s).port p = s.port p := by
  cases hlists : s.listsEnabled
  · rw [stepLists_disabled hlists]
  · rw [stepLists_enabled hlists]
    cases p <;> rfl

theorem stepDoneHead_port (r : LR) (s : State) (p : PortNo) : (stepDoneHead r s).port p = s.port p := by
  cases hdone : r.done with
  | none => rw [stepDoneHead_none hdone]
  | some d =>
    rw [stepDoneHead_some hdone]
    cases p <;> rfl

theorem frameFire_port (lr : LR) (s : State) (p : PortNo) : (frameFire lr s).port p = s.port p :=
  calc (frameFire lr s).port p
    _ = (armTimer _ _).port p := updateInterrupt_port _ p
    _ = (stepDoneHead _ _).port p := by cases p <;> rfl
    _ = (stepLists lr _).port p := stepDoneHead_port _ _ p
    _ = (stepReload (stepSOF (stepFrameNumber { s with timerArmed := false }))).port p := stepLists_port lr _ p
    _ = s.port p := by cases p <;> rfl

theorem clearOut_port (s : State) (p : PortNo) : s.clearOut.port p = s.port p := by cases p <;> rfl

theorem Taken.ccs {i : Instr} {s t : State} (h : Taken s i t) (hc : s.constructed = true) (p : PortNo) :
    (t.port p).ccs = connectAfter p (s.port p).ccs i := by
  cases h with
  | read v hi =>
    rw [connectAfter_of_isRead hi]
    cases p <;> rfl
  | write hf => rw [updateInterrupt_port, hf.ccs, clearOut_port, hf.connectAfter]
  | fire lr =>
    rw [frameFire_port, clearOut_port]
    rfl
  | attach lowSpeed hq => simp [updateInterrupt_port, attachPort_ccs, clearOut_port, connectAfter, hq, eq_comm]
  | detach hq => simp [updateInterrupt_port, detachPort_ccs, clearOut_port, connectAfter, hq, eq_comm]
  | prdone =>
    rw [updateInterrupt_port, (portResetDone_portKept _ _).ccs, clearOut_port]
    rfl
  | adv => cases p <;> rfl
  | construct hn => simp [hc] at hn

theorem ofOperand_inj {m n : Nat} {p : PortNo} (hm : PortNo.ofOperand m = some p) (hn : PortNo.ofOperand n = some p) :
    m = n := by
  rw [ofOperand_eq_some_iff] at hm hn
  obtain ⟨rfl, rfl⟩ | ⟨rfl, rfl⟩ := hm <;> simp_all

/-- Settles O54: `connectAfter` gives the connect status after every instruction, and keeps it for all but two. -/
theorem connectStatusFollowsTheDevice : Obligations.ConnectStatusFollowsTheDevice := by
  intro i s t n p hc hport h
  have hn : PortNo.ofOperand n = some p := ofOperand_eq_some_iff.mpr hport
  rw [(exec_next_taken h).ccs hc p]
  refine ⟨?_, ?_, fun hne => ?_⟩
  · rintro ⟨lowSpeed, rfl⟩
    simp [connectAfter, hn]
  · rintro rfl
    simp [connectAfter, hn]
  · unfold connectAfter at hne
    split at hne
    · next m lowSpeed =>
      have hm : PortNo.ofOperand m = some p := by
        by_contra hm
        simp [hm] at hne
      exact .inl ⟨lowSpeed, by rw [ofOperand_inj hm hn]⟩
    · next m =>
      have hm : PortNo.ofOperand m = some p := by
        by_contra hm
        simp [hm] at hne
      exact .inr (by rw [ofOperand_inj hm hn])
    · exact absurd rfl hne

/-! ### The statements on the store and the frame time -/

/-- Settles O47: no transaction but a fire writes guest memory, and FN but for the Reset procedure. -/
theorem memoryAndFrameNumberChangeOnlyAtFires : Obligations.MemoryAndFrameNumberChangeOnlyAtFires := by
  intro i s t hc h
  have hstore : (∃ lr, i = .fire lr)
      ∨ (t.mem = s.mem ∧ (t.hcFmNumber = s.hcFmNumber ∨ (resets i s = true ∧ t.hcFmNumber = 0#32))) := by
    cases exec_next_taken h with
    | read | adv => exact .inr ⟨rfl, .inl rfl⟩
    | write hf =>
      have hf := hf.mem_hcFmNumber s.clearOut
      rw [resets_clearOut] at hf
      exact .inr (by simpa using hf)
    | fire lr => exact .inl ⟨lr, rfl⟩
    | attach lowSpeed =>
      exact .inr (((attachPort_portFrame _ lowSpeed _).trans (updateInterrupt_portFrame _)).mem_hcFmNumber.imp id .inl)
    | detach =>
      exact .inr (((detachPort_portFrame _ _).trans (updateInterrupt_portFrame _)).mem_hcFmNumber.imp id .inl)
    | prdone =>
      exact .inr (((portResetDone_portFrame _ _).trans (updateInterrupt_portFrame _)).mem_hcFmNumber.imp id .inl)
    | construct hn => simp [hc] at hn
  obtain hfire | ⟨hmem, hfn⟩ := hstore
  · exact ⟨fun _ => hfire, fun _ => .inl hfire⟩
  · exact ⟨fun hne => absurd hmem hne, fun hne => .inr (hfn.resolve_left hne)⟩

/-- Settles O20: the model computes the formula of R74, and a frame takes at least one tick (`frameTime_pos`). -/
theorem frameTimeFormula : Obligations.FrameTimeFormula := by
  intro P fi
  exact ⟨rfl, rfl, fun hvalid => frameTime_pos hvalid fi⟩

/-! ### States that look alike

`State.observable` hides the fields no rule reads. Two states that agree but for these look alike; an operation is blind
when it takes states that look alike to states that look alike. -/

/-- The states differ in hidden fields only. -/
def Alike (s u : State) : Prop := s.observable = u.observable

/-- The operation reads no hidden field, but to keep it. -/
def Blind (f : State → State) : Prop := ∀ ⦃s u : State⦄, Alike s u → Alike (f s) (f u)

/-- What a state shows is the same in states that look alike. -/
theorem Alike.shows {α : Type} {s u : State} (h : Alike s u) (g : State → α)
    (hg : ∀ s, g s.observable = g s := by intro; rfl) : g s = g u :=
  calc g s
    _ = g s.observable := (hg s).symm
    _ = g u.observable := congrArg g h
    _ = g u := hg u

theorem Alike.port {s u : State} (h : Alike s u) (p : PortNo) : (s.port p).observable = (u.port p).observable := by
  cases p
  · exact congrArg State.port1 h
  · exact congrArg State.port2 h

theorem Alike.ccs {s u : State} (h : Alike s u) (p : PortNo) : (s.port p).ccs = (u.port p).ccs :=
  (congrArg Port.ccs (h.port p) :)

theorem Alike.pes {s u : State} (h : Alike s u) (p : PortNo) : (s.port p).pes = (u.port p).pes :=
  (congrArg Port.pes (h.port p) :)

theorem Alike.pss {s u : State} (h : Alike s u) (p : PortNo) : (s.port p).pss = (u.port p).pss :=
  (congrArg Port.pss (h.port p) :)

theorem Alike.prs {s u : State} (h : Alike s u) (p : PortNo) : (s.port p).prs = (u.port p).prs :=
  (congrArg Port.prs (h.port p) :)

theorem Alike.pps {s u : State} (h : Alike s u) (p : PortNo) : (s.port p).pps = (u.port p).pps :=
  (congrArg Port.pps (h.port p) :)

theorem Alike.hcfs {s u : State} (h : Alike s u) : s.hcfs = u.hcfs := h.shows State.hcfs

/-- The time of the last SOF shows while Operational (R72). -/
theorem Alike.sofTime {s u : State} (h : Alike s u) (hop : s.hcfs = .operational) : s.sofTime = u.sofTime :=
  calc s.sofTime
    _ = s.observable.sofTime := (if_pos hop).symm
    _ = u.observable.sofTime := congrArg State.sofTime h
    _ = u.sofTime := if_pos (h.hcfs ▸ hop)

/-- The deadline shows while the timer is armed (R71). -/
theorem Alike.timerDeadline {s u : State} (h : Alike s u) (harmed : s.timerArmed = true) :
    s.timerDeadline = u.timerDeadline :=
  calc s.timerDeadline
    _ = s.observable.timerDeadline := (if_pos harmed).symm
    _ = u.observable.timerDeadline := congrArg State.timerDeadline h
    _ = u.timerDeadline := if_pos (h.shows State.timerArmed ▸ harmed)

/-- The due time of a reset shows while it is in progress (R67). -/
theorem Alike.resetDue {s u : State} (h : Alike s u) {p : PortNo} (hprs : (s.port p).prs = true) :
    (s.port p).resetDue = (u.port p).resetDue :=
  calc (s.port p).resetDue
    _ = (s.port p).observable.resetDue := (if_pos hprs).symm
    _ = (u.port p).observable.resetDue := congrArg Port.resetDue (h.port p)
    _ = (u.port p).resetDue := if_pos (h.prs p ▸ hprs)

/-- What shows after the operation can be computed from what shows before it. -/
theorem Blind.of_factor {f : State → State} (g : State → State) (h : ∀ s, (f s).observable = g s.observable) :
    Blind f := fun s u halike =>
  calc (f s).observable
    _ = g s.observable := h s
    _ = g u.observable := congrArg g halike
    _ = (f u).observable := (h u).symm

theorem Blind.of_commutes {f : State → State} (h : ∀ s, (f s).observable = f s.observable) : Blind f := .of_factor f h

theorem Alike.ite {b c : Bool} {s s' u u' : State} (hbc : b = c) (h : Alike s u) (h' : Alike s' u') :
    Alike (if b then s else s') (if c then u else u') := by
  subst hbc
  cases b
  · exact h'
  · exact h

theorem whenSet_blind {f : State → State} (hf : Blind f) (b : Bool) : Blind (whenSet b f) :=
  fun _ _ h => .ite rfl (hf h) h

theorem clearOut_blind : Blind State.clearOut := .of_commutes fun _ => rfl

theorem updateInterrupt_blind : Blind updateInterrupt := .of_commutes fun s => by
  rw [updateInterrupt_eq, updateInterrupt_eq]
  rfl

theorem setInterrupt_blind (bits : Word) : Blind (setInterrupt bits) := .of_commutes fun s => by
  rw [setInterrupt_eq, setInterrupt_eq, updateInterrupt_eq, updateInterrupt_eq]
  rfl

/-! ### Port operations are blind -/

/-- A change of a port record that reads its hidden field only to keep it. -/
def PortBlind (f : Port → Port) : Prop :=
  ∀ ⦃q r : Port⦄, q.observable = r.observable → (f q).observable = (f r).observable

theorem PortBlind.of_factor {f : Port → Port} (g : Port → Port) (h : ∀ q, (f q).observable = g q.observable) :
    PortBlind f := fun q r hqr =>
  calc (f q).observable
    _ = g q.observable := h q
    _ = g r.observable := congrArg g hqr
    _ = (f r).observable := (h r).symm

theorem PortBlind.of_commutes {f : Port → Port} (h : ∀ q, (f q).observable = f q.observable) : PortBlind f :=
  .of_factor f h

theorem PortBlind.withChange (b : ChangeBit) : PortBlind (·.withChange b) :=
  .of_commutes fun _ => by cases b <;> rfl

theorem PortBlind.powerOff : PortBlind Port.powerOff := .of_factor (fun q => { q.powerOff with resetDue := 0 }) fun _ => rfl

theorem PortBlind.detached : PortBlind Port.detached := .of_factor (fun q => { q.detached with resetDue := 0 }) fun _ => rfl

theorem PortBlind.resetDone : PortBlind Port.resetDone :=
  .of_factor (fun q => { q.resetDone with resetDue := 0 }) fun _ => rfl

theorem modifyPort_observable (p : PortNo) (f : Port → Port) (s : State) :
    (modifyPort p f s).observable = modifyPort p (fun _ => (f (s.port p)).observable) s.observable := by
  cases p <;> rfl

theorem modifyPort_alike {s u : State} (p : PortNo) (f : Port → Port) (h : Alike s u)
    (hf : PortBlind f := by exact .of_commutes fun _ => rfl) : Alike (modifyPort p f s) (modifyPort p f u) := by
  have hobs : s.observable = u.observable := h
  rw [Alike, modifyPort_observable, modifyPort_observable, hf (h.port p), hobs]

theorem raiseChange_blind (p : PortNo) (b : ChangeBit) : Blind (raiseChange p b) :=
  fun _ _ h => setInterrupt_blind _ (modifyPort_alike p _ h (.withChange b))

theorem clearPortEnable_blind (p : PortNo) : Blind (clearPortEnable p) := fun _ _ h => modifyPort_alike p _ h

theorem setPortEnable_blind (p : PortNo) : Blind (setPortEnable p) :=
  fun _ _ h => .ite (h.ccs p) (modifyPort_alike p _ h) (raiseChange_blind p .csc h)

theorem setPortSuspend_blind (p : PortNo) : Blind (setPortSuspend p) :=
  fun _ _ h => .ite (h.ccs p) (.ite (h.pes p) (modifyPort_alike p _ h) h) (raiseChange_blind p .csc h)

theorem clearSuspendStatus_blind (p : PortNo) : Blind (clearSuspendStatus p) :=
  fun _ _ h => .ite (h.pss p) (raiseChange_blind p .pssc (modifyPort_alike p _ h)) h

/-- A reset that is started stores its due time, so what was hidden there is gone (R280). -/
theorem setPortReset_blind (p : PortNo) : Blind (setPortReset p) := by
  intro s u h
  have hstart : Alike
      (modifyPort p (fun q => { q with prs := true, resetDue := s.now + s.params.portResetTicks }) s)
      (modifyPort p (fun q => { q with prs := true, resetDue := u.now + u.params.portResetTicks }) u) := by
    rw [h.shows State.now, h.shows State.params]
    exact modifyPort_alike p _ h
  exact .ite (h.ccs p) (.ite (h.prs p) h hstart) (raiseChange_blind p .csc h)

theorem portCommands_blind (p : PortNo) (w : Word) : Blind (portCommands p w) := by
  intro s u h
  have h0 := whenSet_blind (clearPortEnable_blind p) (w.getLsbD 0) h
  have h1 := whenSet_blind (setPortEnable_blind p) (w.getLsbD 1) h0
  have h2 := whenSet_blind (setPortSuspend_blind p) (w.getLsbD 2) h1
  have h3 := whenSet_blind (clearSuspendStatus_blind p) (w.getLsbD 3) h2
  exact whenSet_blind (setPortReset_blind p) (w.getLsbD 4) h3

theorem portPowerOff_blind (p : PortNo) : Blind (portPowerOff p) :=
  fun _ _ h => .ite (h.shows fun s => s.params.nps) h (modifyPort_alike p _ h .powerOff)

theorem portPowerOn_blind (p : PortNo) : Blind (portPowerOn p) :=
  fun _ _ h => .ite (h.shows fun s => s.params.nps) h (modifyPort_alike p _ h)

theorem portWrite_blind (p : PortNo) (v : Word) : Blind (portWrite p v) := by
  intro s u h
  have hcleared := modifyPort_alike p (Port.clearChanges (v &&& maskPortStatus)) h
  have hcommands := Alike.ite (hcleared.pps p) (portCommands_blind p (v &&& maskPortStatus) hcleared) hcleared
  exact whenSet_blind (portPowerOn_blind p) _ (whenSet_blind (portPowerOff_blind p) _ hcommands)

theorem writeRhStatusBit_blind (i : Nat) (b : Bool) : Blind (writeRhStatusBit i b) := .of_commutes fun _ => rfl

theorem rhStatusCommands_blind (w : Word) : Blind (rhStatusCommands w) := by
  have hoff : Blind clearGlobalPower := fun _ _ h => portPowerOff_blind .two (portPowerOff_blind .one h)
  have hon : Blind setGlobalPower := fun _ _ h => portPowerOn_blind .two (portPowerOn_blind .one h)
  intro s u h
  have h0 := whenSet_blind hoff (w.getLsbD 0) h
  have h15 := whenSet_blind (writeRhStatusBit_blind 15 true) (w.getLsbD 15) h0
  have h16 := whenSet_blind hon (w.getLsbD 16) h15
  have h17 := whenSet_blind (writeRhStatusBit_blind 17 false) (w.getLsbD 17) h16
  exact whenSet_blind (writeRhStatusBit_blind 15 false) (w.getLsbD 31) h17

theorem attachPort_blind (p : PortNo) (lowSpeed : Bool) : Blind (attachPort p lowSpeed) :=
  fun _ _ h => .ite (h.ccs p) h (raiseChange_blind p .csc (modifyPort_alike p _ h))

theorem detachPort_blind (p : PortNo) : Blind (detachPort p) := by
  intro s u h
  have hdetached := raiseChange_blind p .csc (modifyPort_alike p _ h .detached)
  exact .ite (h.ccs p) (.ite (h.pes p) (raiseChange_blind p .pesc hdetached) hdetached) h

theorem portResetDone_blind (p : PortNo) : Blind (portResetDone p) := by
  intro s u h
  have hdone := raiseChange_blind p .prsc (modifyPort_alike p _ h .resetDone)
  exact .ite (h.ccs p) (raiseChange_blind p .csc hdone) hdone

/-! ### The state machine is blind -/

/-- Only a store that enters Operational could bring a hidden SOF time to light. -/
theorem storeControl_alike {s u : State} (w : Word) (h : Alike s u)
    (hw : hcfsOf w = .operational → s.hcfs = .operational) :
    Alike { s with hcControl := w } { u with hcControl := w } := by
  have hsof : (if hcfsOf w = .operational then s.sofTime else 0) = if hcfsOf w = .operational then u.sofTime else 0 := by
    split
    · next hop => exact h.sofTime (hw hop)
    · rfl
  have hstore : ∀ t : State, ({ t with hcControl := w } : State).observable = { t.observable with
      hcControl := w
      sofTime := if hcfsOf w = .operational then t.sofTime else 0 } := fun _ => rfl
  have hobs : s.observable = u.observable := h
  rw [Alike, hstore s, hstore u, hsof, hobs]

/-- The countdown runs from the SOF time, which shows while Operational (R251). -/
theorem liveRemaining_alike {s u : State} (h : Alike s u) (hop : s.hcfs = .operational) :
    s.liveRemaining = u.liveRemaining := by
  unfold State.liveRemaining State.elapsed
  rw [h.sofTime hop, h.shows State.hcFmRemaining, h.shows State.now, h.shows State.params]

theorem leaveOperational_alike {s u : State} (h : Alike s u) (hop : s.hcfs = .operational) :
    Alike (leaveOperational s) (leaveOperational u) := by
  unfold leaveOperational
  rw [liveRemaining_alike h hop]
  exact Blind.of_factor (f := fun t => { disarmTimer t with hcFmRemaining := u.liveRemaining })
    (fun t => { disarmTimer t with hcFmRemaining := u.liveRemaining, timerDeadline := 0 }) (fun _ => rfl) h

theorem enterOperational_blind (w : Word) : Blind fun s => enterOperational { s with hcControl := w } :=
  .of_factor (fun s => { enterOperational { s with hcControl := w } with
    sofTime := if hcfsOf w = .operational then s.now else 0 }) fun _ => rfl

/-- What shows of the state the Reset procedure leaves: the timer is disarmed, HCFS is Reset and no port is in reset. -/
theorem resetProcedure_observable (s : State) : (resetProcedure s).observable = { resetProcedure s with
    timerDeadline := 0
    sofTime := 0
    port1 := { ccs := s.port1.ccs, lsda := s.port1.lsda, pps := s.params.nps }
    port2 := { ccs := s.port2.ccs, lsda := s.port2.lsda, pps := s.params.nps } } := by
  have hidle : ¬ (resetProcedure s).hcfs = .operational := show ¬ hcfsOf 0#32 = .operational by decide
  unfold State.observable
  rw [if_neg hidle]
  rfl

theorem resetProcedure_blind : Blind resetProcedure :=
  .of_factor (fun s => (resetProcedure s).observable) fun s => by
    rw [resetProcedure_observable, resetProcedure_observable]
    rfl

/-- Leaving a state for one that is not Operational: the countdown is frozen while the SOF time still shows. -/
theorem left_alike {s u : State} (w : Word) (h : Alike s u) (hidle : hcfsOf w ≠ .operational) :
    Alike (if s.hcfs = .operational then leaveOperational { s with hcControl := w } else { s with hcControl := w })
      (if s.hcfs = .operational then leaveOperational { u with hcControl := w } else { u with hcControl := w }) := by
  split
  · next hop => exact storeControl_alike w (leaveOperational_alike h hop) fun _ => hop
  · exact storeControl_alike w h fun hop => absurd hop hidle

theorem writeControl_blind (v : Word) : Blind (writeControl v) := by
  intro s u h
  unfold writeControl changeState
  rw [← h.hcfs]
  by_cases hsame : s.hcfs = hcfsOf (v &&& maskControl)
  · rw [if_pos hsame, if_pos hsame]
    exact storeControl_alike _ h fun hop => hsame.trans hop
  · rw [if_neg hsame, if_neg hsame]
    have hleft := left_alike (v &&& maskControl) h
    cases hnew : hcfsOf (v &&& maskControl) with
    | reset => exact resetProcedure_blind (hleft (by simp [hnew]))
    | operational =>
      have hold : s.hcfs ≠ .operational := fun hop => hsame (hop.trans hnew.symm)
      simp only [if_neg hold]
      exact enterOperational_blind _ h
    | suspend | resume => exact hleft (by simp [hnew])

theorem writeCommandStatus_blind (v : Word) : Blind (writeCommandStatus v) := by
  intro s u h
  refine .ite rfl (resetProcedure_blind h) ?_
  exact Blind.of_commutes (f := fun s => { s with hcCommandStatus := s.hcCommandStatus ||| (v &&& maskCommandStatus) })
    (fun _ => rfl) h

theorem writeFmInterval_blind (v : Word) : Blind (writeFmInterval v) :=
  .of_factor (fun s => { writeFmInterval v s with fiPending := false }) fun _ => rfl

theorem WriteRule.blind {i : Instr} {f : State → State} (hf : WriteRule i f) : Blind f := by
  cases hf with
  | wrHcRevision | wrHcFmRemaining | wrHcFmNumber | wrHcRhDescriptorA | wrHcRhDescriptorB | wrMisaligned1
  | wrMisaligned2 | wrMisaligned3 | wrUnmapped => exact fun _ _ h => h
  | wrHcControl v => exact writeControl_blind v
  | wrHcCommandStatus v => exact writeCommandStatus_blind v
  | wrHcFmInterval v => exact writeFmInterval_blind v
  | wrHcRhStatus v => exact rhStatusCommands_blind _
  | wrHcRhPortStatus1 v => exact portWrite_blind .one v
  | wrHcRhPortStatus2 v => exact portWrite_blind .two v
  | wrHcInterruptStatus | wrHcInterruptEnable | wrHcInterruptDisable | wrHcHCCA | wrHcPeriodCurrentED
  | wrHcControlHeadED | wrHcControlCurrentED | wrHcBulkHeadED | wrHcBulkCurrentED | wrHcDoneHead | wrHcPeriodicStart
  | wrHcLSThreshold => exact .of_commutes fun _ => rfl

/-! ### The frame fire is blind -/

/-- The first three steps take the fire's time for the SOF time and disarm the timer; the next arms it again. -/
theorem fireStart_blind : Blind fun s => stepReload (stepSOF (stepFrameNumber { s with timerArmed := false })) :=
  .of_factor (fun s => { stepReload (stepSOF (stepFrameNumber { s with timerArmed := false })) with
    timerDeadline := 0
    sofTime := if s.hcfs = .operational then s.now else 0 }) fun _ => rfl

theorem stepLists_blind (lr : LR) : Blind (stepLists lr) := .of_commutes fun s => by
  cases hlists : s.listsEnabled
  · rw [stepLists_disabled hlists, stepLists_disabled (s := s.observable) hlists]
  · rw [stepLists_enabled hlists, stepLists_enabled (s := s.observable) hlists]
    rfl

theorem stepDoneHead_blind (r : LR) : Blind (stepDoneHead r) := .of_commutes fun s => by
  cases hdone : r.done with
  | none => rw [stepDoneHead_none hdone, stepDoneHead_none hdone]
  | some d =>
    rw [stepDoneHead_some hdone, stepDoneHead_some hdone]
    rfl

theorem stepRearm_blind : Blind stepRearm := by
  have harm : Blind fun s => armTimer s.usbFrameTime s := .of_commutes fun _ => rfl
  exact fun _ _ h => updateInterrupt_blind (harm h)

theorem frameFire_blind (lr : LR) : Blind (frameFire lr) := by
  intro s u h
  have hstart := fireStart_blind h
  have hanswer := hstart.shows (effectiveAnswer lr)
  unfold frameFire
  dsimp only
  rw [hanswer]
  exact stepRearm_blind (stepDoneHead_blind _ (stepLists_blind lr hstart))

/-! ### Every answer is the same -/

theorem live_sameAnswer {s u : State} {a b : Answer} (h : Alike s u) (hab : sameAnswer a b) :
    sameAnswer (live s a) (live u b) := by
  unfold live
  rw [h.shows State.constructed]
  split
  · exact hab
  · rfl

theorem busRead_sameAnswer {s u : State} {v w : Word} (h : Alike s u) (hvw : v = w) :
    sameAnswer (busRead v s) (busRead w u) := by
  subst hvw
  exact live_sameAnswer h (Blind.of_commutes (f := fun s => s.clearOut.emit (.readData v)) (fun _ => rfl) h)

theorem busWrite_sameAnswer {s u : State} {f : State → State} (h : Alike s u) (hf : Blind f) :
    sameAnswer (busWrite f s) (busWrite f u) :=
  live_sameAnswer h (updateInterrupt_blind (hf (clearOut_blind h)))

theorem inWindow_sameAnswer {s u : State} {a b : Answer} {offset : Nat} (h : Alike s u) (hab : sameAnswer a b) :
    sameAnswer (inWindow offset s a) (inWindow offset u b) := by
  unfold inWindow
  rw [h.shows State.params]
  split
  · exact hab
  · exact live_sameAnswer h rfl

theorem withPort_sameAnswer {s u : State} {k l : PortNo → Answer} {p : Nat} (h : Alike s u)
    (hkl : ∀ q, sameAnswer (k q) (l q)) : sameAnswer (withPort p s k) (withPort p u l) := by
  unfold withPort
  split
  · rfl
  · exact live_sameAnswer h (hkl _)

theorem fireEnabled_alike {s u : State} (h : Alike s u) : s.fireEnabled = u.fireEnabled := by
  unfold State.fireEnabled
  cases harmed : s.timerArmed
  · rw [← h.shows State.timerArmed, harmed]
    rfl
  · rw [← h.shows State.timerArmed, harmed, h.timerDeadline harmed, h.shows State.now]

theorem portResetDoneEnabled_alike {s u : State} (h : Alike s u) (p : PortNo) :
    s.portResetDoneEnabled p = u.portResetDoneEnabled p := by
  unfold State.portResetDoneEnabled
  cases hprs : (s.port p).prs
  · rw [← h.prs p, hprs]
    rfl
  · rw [← h.prs p, hprs, h.resetDue hprs, h.shows State.now]

theorem fmRemainingRead_alike {s u : State} (h : Alike s u) : s.fmRemainingRead = u.fmRemainingRead := by
  unfold State.fmRemainingRead
  rw [← h.hcfs]
  split
  · next hop => exact liveRemaining_alike h hop
  · exact h.shows State.hcFmRemaining

theorem execFire_sameAnswer {s u : State} (lr : LR) (h : Alike s u) : sameAnswer (execFire lr s) (execFire lr u) := by
  unfold execFire
  rw [fireEnabled_alike h]
  refine live_sameAnswer h ?_
  split
  · exact frameFire_blind lr (clearOut_blind h)
  · rfl

theorem execPrdone_sameAnswer {s u : State} (p : Nat) (h : Alike s u) : sameAnswer (execPrdone p s) (execPrdone p u) := by
  refine withPort_sameAnswer h fun q => ?_
  rw [portResetDoneEnabled_alike h]
  split
  · exact updateInterrupt_blind (portResetDone_blind q (clearOut_blind h))
  · rfl

theorem execAdv_sameAnswer {s u : State} (d : Nat) (h : Alike s u) : sameAnswer (execAdv d s) (execAdv d u) := by
  unfold execAdv
  split
  · rfl
  · exact live_sameAnswer h (Blind.of_commutes (f := fun s => { s.clearOut with now := s.now + d }) (fun _ => rfl) h)

theorem execConstruct_sameAnswer {s u : State} (h : Alike s u) : sameAnswer (execConstruct s) (execConstruct u) := by
  unfold execConstruct
  rw [h.shows State.constructed]
  split
  · rfl
  · exact Blind.of_factor (fun s => (construct s).observable) (fun _ => rfl) h

/-- No read shows a hidden field; that of HcFmRemaining uses the SOF time only while it shows. -/
theorem read_sameAnswer {i : Instr} {s u : State} (hi : isRead i = true) (h : Alike s u) :
    sameAnswer (exec i s) (exec i u) := by
  cases i with
  | rdHcRevision => exact busRead_sameAnswer h rfl
  | rdHcControl => exact busRead_sameAnswer h (h.shows State.hcControl)
  | rdHcCommandStatus => exact busRead_sameAnswer h (h.shows State.hcCommandStatus)
  | rdHcInterruptStatus => exact busRead_sameAnswer h (h.shows State.hcInterruptStatus)
  | rdHcInterruptEnable | rdHcInterruptDisable => exact busRead_sameAnswer h (h.shows State.hcInterrupt)
  | rdHcHCCA => exact busRead_sameAnswer h (h.shows State.hcHCCA)
  | rdHcPeriodCurrentED => exact busRead_sameAnswer h (h.shows State.hcPeriodCurrentED)
  | rdHcControlHeadED => exact busRead_sameAnswer h (h.shows State.hcControlHeadED)
  | rdHcControlCurrentED => exact busRead_sameAnswer h (h.shows State.hcControlCurrentED)
  | rdHcBulkHeadED => exact busRead_sameAnswer h (h.shows State.hcBulkHeadED)
  | rdHcBulkCurrentED => exact busRead_sameAnswer h (h.shows State.hcBulkCurrentED)
  | rdHcDoneHead => exact busRead_sameAnswer h (h.shows State.hcDoneHead)
  | rdHcFmInterval => exact busRead_sameAnswer h (h.shows State.hcFmInterval)
  | rdHcFmRemaining => exact busRead_sameAnswer h (fmRemainingRead_alike h)
  | rdHcFmNumber => exact busRead_sameAnswer h (h.shows fun s => s.fn.setWidth 32)
  | rdHcPeriodicStart => exact busRead_sameAnswer h (h.shows State.hcPeriodicStart)
  | rdHcLSThreshold => exact busRead_sameAnswer h (h.shows State.hcLSThreshold)
  | rdHcRhDescriptorA => exact busRead_sameAnswer h (h.shows fun s => s.params.rhdaInit)
  | rdHcRhDescriptorB => exact busRead_sameAnswer h (h.shows fun s => s.params.rhdbInit)
  | rdHcRhStatus => exact busRead_sameAnswer h (h.shows fun s => rhStatusRead s.hcRhStatus)
  | rdHcRhPortStatus1 => exact busRead_sameAnswer h (h.shows fun s => portView s.port1)
  | rdHcRhPortStatus2 => exact busRead_sameAnswer h (h.shows fun s => portView s.port2)
  | rdMisaligned1 | rdMisaligned2 | rdMisaligned3 | rdUnmapped =>
    exact inWindow_sameAnswer h (busRead_sameAnswer h rfl)
  | _ => cases hi

/-- A write runs its register rule on the bus, or in the window at an offset that names no register. -/
theorem WriteRule.exec_eq {i : Instr} {f : State → State} (hf : WriteRule i f) :
    (∀ s, exec i s = busWrite f s) ∨ ∃ offset, ∀ s, exec i s = inWindow offset s (busWrite f s) := by
  cases hf with
  | wrMisaligned1 | wrMisaligned2 | wrMisaligned3 | wrUnmapped => exact .inr ⟨_, fun _ => rfl⟩
  | _ => exact .inl fun _ => rfl

theorem WriteRule.sameAnswer {i : Instr} {f : State → State} {s u : State} (hf : WriteRule i f) (h : Alike s u) :
    sameAnswer (exec i s) (exec i u) := by
  obtain hexec | ⟨offset, hexec⟩ := hf.exec_eq
  · rw [hexec, hexec]
    exact busWrite_sameAnswer h hf.blind
  · rw [hexec, hexec]
    exact inWindow_sameAnswer h (busWrite_sameAnswer h hf.blind)

/-- Settles O58: reads show no hidden field, writes and events are blind, and the guards of FIRE and PRDONE look at a
deadline and a due time only where these show. -/
theorem unreadFieldsAreUnobservable : Obligations.UnreadFieldsAreUnobservable := by
  intro i s u h
  have h : Alike s u := h
  cases i with
  | rdHcRevision | rdHcControl | rdHcCommandStatus | rdHcInterruptStatus | rdHcInterruptEnable | rdHcInterruptDisable
  | rdHcHCCA | rdHcPeriodCurrentED | rdHcControlHeadED | rdHcControlCurrentED | rdHcBulkHeadED | rdHcBulkCurrentED
  | rdHcDoneHead | rdHcFmInterval | rdHcFmRemaining | rdHcFmNumber | rdHcPeriodicStart | rdHcLSThreshold
  | rdHcRhDescriptorA | rdHcRhDescriptorB | rdHcRhStatus | rdHcRhPortStatus1 | rdHcRhPortStatus2 | rdMisaligned1
  | rdMisaligned2 | rdMisaligned3 | rdUnmapped => exact read_sameAnswer rfl h
  | wrHcRevision v => exact (WriteRule.wrHcRevision v).sameAnswer h
  | wrHcControl v => exact (WriteRule.wrHcControl v).sameAnswer h
  | wrHcCommandStatus v => exact (WriteRule.wrHcCommandStatus v).sameAnswer h
  | wrHcInterruptStatus v => exact (WriteRule.wrHcInterruptStatus v).sameAnswer h
  | wrHcInterruptEnable v => exact (WriteRule.wrHcInterruptEnable v).sameAnswer h
  | wrHcInterruptDisable v => exact (WriteRule.wrHcInterruptDisable v).sameAnswer h
  | wrHcHCCA v => exact (WriteRule.wrHcHCCA v).sameAnswer h
  | wrHcPeriodCurrentED v => exact (WriteRule.wrHcPeriodCurrentED v).sameAnswer h
  | wrHcControlHeadED v => exact (WriteRule.wrHcControlHeadED v).sameAnswer h
  | wrHcControlCurrentED v => exact (WriteRule.wrHcControlCurrentED v).sameAnswer h
  | wrHcBulkHeadED v => exact (WriteRule.wrHcBulkHeadED v).sameAnswer h
  | wrHcBulkCurrentED v => exact (WriteRule.wrHcBulkCurrentED v).sameAnswer h
  | wrHcDoneHead v => exact (WriteRule.wrHcDoneHead v).sameAnswer h
  | wrHcFmInterval v => exact (WriteRule.wrHcFmInterval v).sameAnswer h
  | wrHcFmRemaining v => exact (WriteRule.wrHcFmRemaining v).sameAnswer h
  | wrHcFmNumber v => exact (WriteRule.wrHcFmNumber v).sameAnswer h
  | wrHcPeriodicStart v => exact (WriteRule.wrHcPeriodicStart v).sameAnswer h
  | wrHcLSThreshold v => exact (WriteRule.wrHcLSThreshold v).sameAnswer h
  | wrHcRhDescriptorA v => exact (WriteRule.wrHcRhDescriptorA v).sameAnswer h
  | wrHcRhDescriptorB v => exact (WriteRule.wrHcRhDescriptorB v).sameAnswer h
  | wrHcRhStatus v => exact (WriteRule.wrHcRhStatus v).sameAnswer h
  | wrHcRhPortStatus1 v => exact (WriteRule.wrHcRhPortStatus1 v).sameAnswer h
  | wrHcRhPortStatus2 v => exact (WriteRule.wrHcRhPortStatus2 v).sameAnswer h
  | wrMisaligned1 w v => exact (WriteRule.wrMisaligned1 w v).sameAnswer h
  | wrMisaligned2 w v => exact (WriteRule.wrMisaligned2 w v).sameAnswer h
  | wrMisaligned3 w v => exact (WriteRule.wrMisaligned3 w v).sameAnswer h
  | wrUnmapped w v => exact (WriteRule.wrUnmapped w v).sameAnswer h
  | rd8 | rd16 | rd64 | wr8 | wr16 | wr64 | reservedClass | reservedEvent => rfl
  | fire lr => exact execFire_sameAnswer lr h
  | attach p lowSpeed =>
    exact withPort_sameAnswer h fun q => updateInterrupt_blind (attachPort_blind q lowSpeed (clearOut_blind h))
  | detach p => exact withPort_sameAnswer h fun q => updateInterrupt_blind (detachPort_blind q (clearOut_blind h))
  | prdone p => exact execPrdone_sameAnswer p h
  | adv d => exact execAdv_sameAnswer d h
  | construct => exact execConstruct_sameAnswer h

end Sys2Proof.Machine

/-! PROOFS of the family 20_memory.md: what a read leaves, the accesses that are not taken, the bytes a fire writes, and
the two instances of a platform. -/

namespace Sys2Proof.Machine

open Sys2Proof

/-! ### Reads, and the accesses that are not taken -/

theorem WriteRule.isRead_eq_false {i : Instr} {f : State → State} (hf : WriteRule i f) : isRead i = false := by
  cases hf <;> rfl

/-- An access that names no register stops at every offset at or above WINDOW_SIZE, whatever it would have done
inside. -/
theorem inWindow_of_outside {offset : Nat} {s : State} (hc : s.constructed = true)
    (hout : s.params.windowSize ≤ offset) (k : Answer) : inWindow offset s k = .fault .outsideWindow := by
  rw [inWindow, if_neg hout.not_gt, live_of_constructed hc]

/-- Settles O13: the only transactions taken that are reads hand out one value and leave the rest. -/
theorem readsChangeNoState : Obligations.ReadsChangeNoState := by
  intro i s t hi h
  cases exec_next_taken h with
  | read v => exact ⟨v, rfl⟩
  | write hf => simp [hf.isRead_eq_false] at hi
  | fire | attach | detach | prdone | adv | construct => cases hi

/-- Settles O15: all eight accesses lie at or above the first byte of the word, which is outside the window already. -/
theorem outsideTheWindowNothingRuns : Obligations.OutsideTheWindowNothingRuns := by
  intro s w v hc hw
  have hstop (low : Nat) (k : Answer) : inWindow (offsetOf w low) s k = .fault .outsideWindow :=
    inWindow_of_outside hc (Nat.le_add_right_of_le hw) k
  exact ⟨hstop 0 _, hstop 0 _, hstop 1 _, hstop 2 _, hstop 3 _, hstop 1 _, hstop 2 _, hstop 3 _⟩

/-- Settles O16: the refused forms have no other answer, constructed or not. -/
theorem refusedFormsStop : Obligations.RefusedFormsStop := by
  intro s o code
  exact ⟨rfl, rfl, rfl, rfl, rfl, rfl, rfl, rfl⟩

/-! ### The registers a fire reads, as the statements write them -/

theorem listBits_eq_zero_iff (c : Word) :
    c &&& 0x0000003C#32 = 0#32
      ↔ c.getLsbD 2 = false ∧ c.getLsbD 3 = false ∧ c.getLsbD 4 = false ∧ c.getLsbD 5 = false := by
  constructor
  · intro h
    have hbit (i : Nat) : (c &&& 0x0000003C#32).getLsbD i = false := by simp [h]
    exact ⟨by simpa using hbit 2, by simpa using hbit 3, by simpa using hbit 4, by simpa using hbit 5⟩
  · intro ⟨h2, h3, h4, h5⟩
    ext i hi
    interval_cases i <;> simp_all

/-- The four list enables are bits 2 to 5 of HcControl (R34). -/
theorem listsEnabled_iff (s : State) : s.listsEnabled = true ↔ s.hcControl &&& 0x0000003C#32 ≠ 0#32 := by
  rw [Ne, listBits_eq_zero_iff, ← Bool.not_eq_false]
  simp only [State.listsEnabled, State.ple, State.ie, State.cle, State.ble, Bool.or_eq_false_iff, and_assoc]

/-- FN plus 1 with a zero pad: the carry out of FN is lost (R352). -/
theorem nextFn_setWidth (s : State) : (s.fn + 1#16).setWidth 32 = (s.hcFmNumber + 1#32) &&& 0x0000FFFF#32 := by
  have hmask (x : Nat) : x &&& 65535 = x % 65536 := Nat.and_two_pow_sub_one_eq_mod x 16
  apply BitVec.eq_of_toNat_eq
  simp only [State.fn, BitVec.toNat_and, BitVec.toNat_setWidth, BitVec.toNat_add, BitVec.extractLsb'_toNat,
    BitVec.toNat_ofNat, Nat.shiftRight_zero, Nat.reducePow, Nat.reduceMod, hmask]
  omega

theorem byteOf_eq_setWidth (v : Word) (k : Nat) : byteOf v k = (v >>> (8 * k)).setWidth 8 := by
  apply BitVec.eq_of_toNat_eq
  simp [byteOf]

/-- The answer that counts has a done head where the collaborator gave one and a list is enabled (R356, R357). -/
theorem effectiveAnswer_done_eq_some_iff {lr : LR} {s : State} {d : Word} :
    (effectiveAnswer lr s).done = some d ↔ lr.done = some d ∧ s.hcControl &&& 0x0000003C#32 ≠ 0#32 := by
  rw [← listsEnabled_iff]
  cases hlists : s.listsEnabled
  · simp [effectiveAnswer_disabled hlists, LR.nothing]
  · simp [effectiveAnswer_enabled hlists]

/-! ### The bytes of guest memory a fire writes -/

theorem stepLists_mem (lr : LR) (s : State) : (stepLists lr s).mem = s.mem := by
  cases hlists : s.listsEnabled
  · rw [stepLists_disabled hlists]
  · rw [stepLists_enabled hlists]

theorem stepLists_hcHCCA (lr : LR) (s : State) : (stepLists lr s).hcHCCA = s.hcHCCA := by
  cases hlists : s.listsEnabled
  · rw [stepLists_disabled hlists]
  · rw [stepLists_enabled hlists]

theorem stepDoneHead_mem (r : LR) (s : State) : (stepDoneHead r s).mem =
    r.done.elim s.mem fun d => s.mem.writeLE (s.hcHCCA + 0x84#32) 4 (d &&& maskED) := by
  cases hdone : r.done with
  | none => rw [stepDoneHead_none hdone]; rfl
  | some d => rw [stepDoneHead_some hdone]; rfl

theorem stepRearm_mem (s : State) : (stepRearm s).mem = s.mem := updateInterrupt_mem _

/-- Guest memory with the next frame number written to the HCCA, step 1 of a fire (R352). -/
def numberedMem (s : State) : Memory :=
  s.mem.writeLE (s.hcHCCA + 0x80#32) 4 ((s.hcFmNumber + 1#32) &&& 0x0000FFFF#32)

theorem numberedMem_get (s : State) {k : Nat} (hk : k < 4) :
    (numberedMem s).get (byteAddress (s.hcHCCA + 0x80#32) k) =
      some (byteOf ((s.hcFmNumber + 1#32) &&& 0x0000FFFF#32) k) :=
  Memory.get_writeLE _ _ 4 _ (by decide) k hk

theorem numberedMem_get_outside (s : State) {a : Nat} (ha : ∀ k < 4, a ≠ byteAddress (s.hcHCCA + 0x80#32) k) :
    (numberedMem s).get a = s.mem.get a :=
  Memory.get_writeLE_outside _ _ 4 _ a ha

/-- Guest memory after a fire: the frame number, then a done head that counts (R352, R357). -/
def firedMem (lr : LR) (s : State) : Memory :=
  (effectiveAnswer lr s).done.elim (numberedMem s)
    fun d => (numberedMem s).writeLE (s.hcHCCA + 0x84#32) 4 (d &&& maskED)

theorem frameFire_mem (lr : LR) (s : State) : (frameFire lr s).mem = firedMem lr s := by
  rw [frameFire, stepRearm_mem, stepDoneHead_mem, stepLists_mem, stepLists_hcHCCA, firedMem, numberedMem,
    ← nextFn_setWidth]
  rfl

theorem execFire_mem {lr : LR} {s t : State} (h : execFire lr s = .next t) : t.mem = firedMem lr s := by
  obtain ⟨-, -, rfl⟩ := execFire_next h
  exact frameFire_mem lr s.clearOut

/-- The two writes of a fire share no byte, wherever the HCCA lies. -/
theorem hccaWrites_disjoint (hcca : Word) {j k : Nat} (hj : j < 4) (hk : k < 4) :
    byteAddress (hcca + 0x80#32) j ≠ byteAddress (hcca + 0x84#32) k := by
  have hnext : byteAddress (hcca + 0x84#32) k = byteAddress (hcca + 0x80#32) (4 + k) := by
    have hbase : hcca + 0x84#32 = hcca + 0x80#32 + BitVec.ofNat 32 4 := by rw [BitVec.add_assoc]; rfl
    rw [byteAddress, byteAddress, BitVec.ofNat_add, ← BitVec.add_assoc, hbase]
  intro heq
  have := byteAddress_inj _ (by omega) (by omega) (heq.trans hnext)
  omega

/-- Settles O39: each write reads back, the done head is written beside the frame number, and an address outside both
keeps its byte. -/
theorem fireWritesTheHcca : Obligations.FireWritesTheHcca := by
  intro s t lr h
  simp only [← byteOf_eq_setWidth]
  have hcounts (d : Word) := effectiveAnswer_done_eq_some_iff (lr := lr) (s := s) (d := d)
  cases hdone : (effectiveAnswer lr s).done with
  | none =>
    have hmem : t.mem = numberedMem s := by rw [execFire_mem h, firedMem, hdone, Option.elim_none]
    rw [hmem]
    refine ⟨fun k hk => numberedMem_get s hk, fun d hd hlists => ?_, fun a hnumber _ => ?_⟩
    · exact absurd ((hcounts d).mpr ⟨hd, hlists⟩) (by simp [hdone])
    · exact numberedMem_get_outside s hnumber
  | some d =>
    have hmem : t.mem = (numberedMem s).writeLE (s.hcHCCA + 0x84#32) 4 (d &&& maskED) := by
      rw [execFire_mem h, firedMem, hdone, Option.elim_some]
    obtain ⟨hd, hlists⟩ := (hcounts d).mp hdone
    rw [hmem]
    refine ⟨fun k hk => ?_, fun e he _ => ?_, fun a hnumber hhead => ?_⟩
    · exact (Memory.get_writeLE_outside _ _ 4 _ _ fun j hj => hccaWrites_disjoint _ hk hj).trans (numberedMem_get s hk)
    · obtain rfl := Option.some.inj (hd.symm.trans he)
      exact Memory.get_writeLE _ _ 4 _ (by decide)
    · have hhead := hhead.resolve_left (by simp [hd, hlists])
      exact (Memory.get_writeLE_outside _ _ 4 _ a hhead).trans (numberedMem_get_outside s hnumber)

/-! ### The two instances of a platform -/

/-- The state that a step leaves, if it is taken. -/
def stepped (s : State) : Option State :=
  match step s with
  | .next t => some t
  | .fault _ | .refused _ => none

theorem Platform.stepInstance_eq (pl : Platform) (k : Fin Config.nInstances) :
    pl.stepInstance k = ((pl.lookup k).bind stepped).map (pl.put k) := by
  unfold Platform.stepInstance
  cases pl.lookup k with
  | none => rfl
  | some s =>
    simp only [stepped, Option.bind_some]
    cases step s <;> rfl

/-- There are two indices: of two that differ, one is 0 and the other is not. -/
theorem index_eq_zero_iff {j k : Fin Config.nInstances} (hjk : j ≠ k) : j.val = 0 ↔ k.val ≠ 0 := by
  have hj : j.val < 2 := j.isLt
  have hk : k.val < 2 := k.isLt
  have hval := Fin.val_ne_of_ne hjk
  omega

theorem Platform.lookup_put_other (pl : Platform) {j k : Fin Config.nInstances} (hjk : j ≠ k) (t : State) :
    (pl.put k t).lookup j = pl.lookup j := by
  by_cases hk : k.val = 0 <;> simp [Platform.put, Platform.lookup, index_eq_zero_iff hjk, hk]

theorem Platform.put_comm (pl : Platform) {j k : Fin Config.nInstances} (hjk : j ≠ k) (t u : State) :
    (pl.put j t).put k u = (pl.put k u).put j t := by
  by_cases hk : k.val = 0 <;> simp [Platform.put, index_eq_zero_iff hjk, hk]

/-- The second of two steps of different instances starts from the state its instance had before the first. -/
theorem Platform.stepInstance_twice (pl : Platform) {j k : Fin Config.nInstances} (hjk : j ≠ k) :
    (pl.stepInstance j).bind (·.stepInstance k) =
      ((pl.lookup j).bind stepped).bind fun t => ((pl.lookup k).bind stepped).map fun u => (pl.put j t).put k u := by
  rw [Platform.stepInstance_eq]
  cases (pl.lookup j).bind stepped with
  | none => rfl
  | some t => simp [Platform.stepInstance_eq, Platform.lookup_put_other pl hjk.symm]

/-- Settles O59: each order runs both instances from their own states, and the two replacements commute. -/
theorem instancesAreIndependent : Obligations.InstancesAreIndependent := by
  intro pl
  constructor
  · rw [pl.stepInstance_twice (by decide), pl.stepInstance_twice (by decide)]
    cases (pl.lookup 0).bind stepped <;> cases (pl.lookup 1).bind stepped
    case some.some t u => exact congrArg some (pl.put_comm (by decide) t u)
    all_goals rfl
  · intro j k pl' h hjk
    rw [Platform.stepInstance_eq] at h
    obtain ⟨t, -, rfl⟩ := Option.map_eq_some_iff.mp h
    exact pl.lookup_put_other hjk t

end Sys2Proof.Machine

/-! PROOFS of the family 30_encoding.md: the fields of a key, what the decoder gives for each form of a key, the two
round trips, and the decoder against the opcode table. -/

namespace Sys2Proof

open Sys2Proof.Machine

/-! ### The fields of a key, and a key from its fields (R130) -/

@[simp] theorem keyClass_append (cls : BitVec 2) (code : BitVec 14) : keyClass (cls ++ code) = cls :=
  BitVec.extractLsb'_append_eq_left

@[simp] theorem keyCode_append (cls : BitVec 2) (code : BitVec 14) : keyCode (cls ++ code) = code :=
  BitVec.extractLsb'_append_eq_right

@[simp] theorem keyClass_busKey (cls size : BitVec 2) (o : Offset) : keyClass (busKey cls size o) = cls :=
  (BitVec.extractLsb'_append_eq_of_le (by decide)).trans BitVec.extractLsb'_append_eq_left

@[simp] theorem keySize_busKey (cls size : BitVec 2) (o : Offset) : keySize (busKey cls size o) = size :=
  (BitVec.extractLsb'_append_eq_of_le (by decide)).trans BitVec.extractLsb'_append_eq_right

@[simp] theorem keyOffset_busKey (cls size : BitVec 2) (o : Offset) : keyOffset (busKey cls size o) = o :=
  BitVec.extractLsb'_append_eq_right

@[simp] theorem offsetWord_append (w : WordIndex) (low : BitVec 2) : offsetWord (w ++ low) = w :=
  BitVec.extractLsb'_append_eq_left

@[simp] theorem offsetLow_append (w : WordIndex) (low : BitVec 2) : offsetLow (w ++ low) = low :=
  BitVec.extractLsb'_append_eq_right

theorem keyClass_append_keyCode (k : Key) : keyClass k ++ keyCode k = k :=
  (BitVec.extractLsb'_append_extractLsb'_eq_extractLsb' rfl).trans BitVec.extractLsb'_eq_self

theorem busKey_fields (k : Key) : busKey (keyClass k) (keySize k) (keyOffset k) = k := by
  have hhigh : keyClass k ++ keySize k = k.extractLsb' 12 4 := BitVec.extractLsb'_append_extractLsb'_eq_extractLsb' rfl
  rw [busKey, hhigh]
  exact (BitVec.extractLsb'_append_extractLsb'_eq_extractLsb' rfl).trans BitVec.extractLsb'_eq_self

theorem offsetWord_append_offsetLow (o : Offset) : offsetWord o ++ offsetLow o = o :=
  (BitVec.extractLsb'_append_extractLsb'_eq_extractLsb' rfl).trans BitVec.extractLsb'_eq_self

theorem twoBits_cases (b : BitVec 2) : b = 0#2 ∨ b = 1#2 ∨ b = 2#2 ∨ b = 3#2 := by decide +revert

/-! ### The decoder, form by form of a key (R132) -/

/-- The key of a transaction written out is the key the decoder splits. -/
theorem decode_mk (k : Key) (ops : TxOperands) : decode ⟨k, ops⟩ =
    if keyClass k = 3#2 then .reservedClass (keyCode k)
    else if keyClass k = 2#2 then decodeEvent (keyCode k) ops
    else if keyClass k = 0#2 then decodeRead (keySize k) (keyOffset k)
    else decodeWrite (keySize k) (keyOffset k) ops.v := rfl

theorem decode_reservedClass (code : BitVec 14) (ops : TxOperands) :
    decode ⟨3#2 ++ code, ops⟩ = .reservedClass code := by
  simp [decode_mk]

theorem decode_event (code : BitVec 14) (ops : TxOperands) : decode ⟨2#2 ++ code, ops⟩ = decodeEvent code ops := by
  simp [decode_mk]

theorem decode_read (size : BitVec 2) (o : Offset) (ops : TxOperands) :
    decode ⟨busKey 0#2 size o, ops⟩ = decodeRead size o := by
  simp [decode_mk]

theorem decode_write (size : BitVec 2) (o : Offset) (ops : TxOperands) :
    decode ⟨busKey 1#2 size o, ops⟩ = decodeWrite size o ops.v := by
  simp [decode_mk]

theorem decodeRead_misaligned1 (w : WordIndex) : decodeRead 2#2 (w ++ 1#2) = .rdMisaligned1 w := by simp [decodeRead]
theorem decodeRead_misaligned2 (w : WordIndex) : decodeRead 2#2 (w ++ 2#2) = .rdMisaligned2 w := by simp [decodeRead]
theorem decodeRead_misaligned3 (w : WordIndex) : decodeRead 2#2 (w ++ 3#2) = .rdMisaligned3 w := by simp [decodeRead]

theorem decodeWrite_misaligned1 (w : WordIndex) (v : Word) :
    decodeWrite 2#2 (w ++ 1#2) v = .wrMisaligned1 w v := by simp [decodeWrite]

theorem decodeWrite_misaligned2 (w : WordIndex) (v : Word) :
    decodeWrite 2#2 (w ++ 2#2) v = .wrMisaligned2 w v := by simp [decodeWrite]

theorem decodeWrite_misaligned3 (w : WordIndex) (v : Word) :
    decodeWrite 2#2 (w ++ 3#2) v = .wrMisaligned3 w v := by simp [decodeWrite]

theorem decodeRead_aligned (w : WordIndex) :
    decodeRead 2#2 (w ++ 0#2) = registerReads[w.toNat]?.getD (.rdUnmapped w) := by
  simp only [decodeRead, offsetLow_append, offsetWord_append]
  cases registerReads[w.toNat]? <;> rfl

theorem decodeWrite_aligned (w : WordIndex) (v : Word) :
    decodeWrite 2#2 (w ++ 0#2) v = (registerWrites[w.toNat]?.map (· v)).getD (.wrUnmapped w v) := by
  simp only [decodeWrite, offsetLow_append, offsetWord_append]
  cases registerWrites[w.toNat]? <;> rfl

theorem decodeRead_unmapped {w : WordIndex} (hw : registerCount ≤ w.toNat) :
    decodeRead 2#2 (w ++ 0#2) = .rdUnmapped w := by
  rw [decodeRead_aligned, List.getElem?_eq_none hw, Option.getD_none]

theorem decodeWrite_unmapped {w : WordIndex} (hw : registerCount ≤ w.toNat) (v : Word) :
    decodeWrite 2#2 (w ++ 0#2) v = .wrUnmapped w v := by
  rw [decodeWrite_aligned, List.getElem?_eq_none hw, Option.map_none, Option.getD_none]

theorem decodeEvent_reserved {code : BitVec 14} (hcode : 6 ≤ code.toNat) (ops : TxOperands) :
    decodeEvent code ops = .reservedEvent code := by
  have hne (n : BitVec 14) (hn : n.toNat < 6) : code ≠ n := by rintro rfl; omega
  simp [decodeEvent, hne]

/-! ### The round trips -/

/-- Settles O2: each key is a literal, and the decoder computes on it whatever the operands are. -/
theorem writtenKeysDecode : Obligations.WrittenKeysDecode := by
  intro ops
  simp only [decode_mk]
  exact ⟨rfl, rfl, rfl, rfl, rfl, rfl, rfl, rfl, rfl, rfl, rfl, rfl, rfl, rfl, rfl, rfl, rfl, rfl, rfl, rfl, rfl⟩

/-- Settles O3: the rows with bits left in their key decode by the equation of their form; the other keys are
literals, one for each register access and each event of R133. -/
theorem decodeOfEncode : Obligations.DecodeOfEncode := by
  intro i hi
  cases i
  case rdMisaligned1 w => exact (decode_read _ _ _).trans (decodeRead_misaligned1 w)
  case rdMisaligned2 w => exact (decode_read _ _ _).trans (decodeRead_misaligned2 w)
  case rdMisaligned3 w => exact (decode_read _ _ _).trans (decodeRead_misaligned3 w)
  case wrMisaligned1 w v => exact (decode_write _ _ _).trans (decodeWrite_misaligned1 w v)
  case wrMisaligned2 w v => exact (decode_write _ _ _).trans (decodeWrite_misaligned2 w v)
  case wrMisaligned3 w v => exact (decode_write _ _ _).trans (decodeWrite_misaligned3 w v)
  case rdUnmapped w => exact (decode_read _ _ _).trans (decodeRead_unmapped (of_decide_eq_true hi))
  case wrUnmapped w v => exact (decode_write _ _ _).trans (decodeWrite_unmapped (of_decide_eq_true hi) v)
  case rd8 o | rd16 o | rd64 o => exact decode_read _ o _
  case wr8 o | wr16 o | wr64 o => exact decode_write _ o _
  case reservedClass code => exact decode_reservedClass code _
  case reservedEvent code => exact (decode_event code _).trans (decodeEvent_reserved (of_decide_eq_true hi) _)
  all_goals rw [encode, decode_mk]; rfl

/-- The instruction has a key, and it is this one. -/
def Instr.HasKey (i : Instr) (k : Key) : Prop := i.encodable = true ∧ (encode i).key = k

/-- A register read stands in its list at the word of its offset. -/
theorem registerReads_hasKey {w : WordIndex} (hw : w.toNat < registerReads.length) :
    registerReads[w.toNat].HasKey (rdKey (w ++ 0#2)) := by
  have hlist : ∀ n (hn : n < registerReads.length), registerReads[n].HasKey (rdKey (BitVec.ofNat 10 n ++ 0#2)) := by
    intro n hn
    change n < 23 at hn
    interval_cases n <;> exact ⟨rfl, rfl⟩
  simpa using hlist w.toNat hw

/-- A register write stands in its list at the word of its offset. -/
theorem registerWrites_hasKey {w : WordIndex} (hw : w.toNat < registerWrites.length) (v : Word) :
    (registerWrites[w.toNat] v).HasKey (wrKey (w ++ 0#2)) := by
  have hlist : ∀ n (hn : n < registerWrites.length),
      (registerWrites[n] v).HasKey (wrKey (BitVec.ofNat 10 n ++ 0#2)) := by
    intro n hn
    change n < 23 at hn
    interval_cases n <;> exact ⟨rfl, rfl⟩
  simpa using hlist w.toNat hw

theorem decodeRead_hasKey (size : BitVec 2) (o : Offset) : (decodeRead size o).HasKey (busKey 0#2 size o) := by
  obtain rfl | rfl | rfl | rfl := twoBits_cases size
  · exact ⟨rfl, rfl⟩
  · exact ⟨rfl, rfl⟩
  · rw [← offsetWord_append_offsetLow o]
    generalize offsetWord o = w
    obtain hlow | hlow | hlow | hlow := twoBits_cases (offsetLow o) <;> rw [hlow]
    · rcases lt_or_ge w.toNat registerCount with hw | hw
      · rw [decodeRead_aligned, List.getElem?_eq_getElem hw]
        exact registerReads_hasKey hw
      · rw [decodeRead_unmapped hw]
        exact ⟨decide_eq_true hw, rfl⟩
    · rw [decodeRead_misaligned1]; exact ⟨rfl, rfl⟩
    · rw [decodeRead_misaligned2]; exact ⟨rfl, rfl⟩
    · rw [decodeRead_misaligned3]; exact ⟨rfl, rfl⟩
  · exact ⟨rfl, rfl⟩

theorem decodeWrite_hasKey (size : BitVec 2) (o : Offset) (v : Word) :
    (decodeWrite size o v).HasKey (busKey 1#2 size o) := by
  obtain rfl | rfl | rfl | rfl := twoBits_cases size
  · exact ⟨rfl, rfl⟩
  · exact ⟨rfl, rfl⟩
  · rw [← offsetWord_append_offsetLow o]
    generalize offsetWord o = w
    obtain hlow | hlow | hlow | hlow := twoBits_cases (offsetLow o) <;> rw [hlow]
    · rcases lt_or_ge w.toNat registerCount with hw | hw
      · rw [decodeWrite_aligned, List.getElem?_eq_getElem hw]
        exact registerWrites_hasKey hw v
      · rw [decodeWrite_unmapped hw]
        exact ⟨decide_eq_true hw, rfl⟩
    · rw [decodeWrite_misaligned1]; exact ⟨rfl, rfl⟩
    · rw [decodeWrite_misaligned2]; exact ⟨rfl, rfl⟩
    · rw [decodeWrite_misaligned3]; exact ⟨rfl, rfl⟩
  · exact ⟨rfl, rfl⟩

theorem decodeEvent_hasKey (code : BitVec 14) (ops : TxOperands) :
    (decodeEvent code ops).HasKey (2#2 ++ code) := by
  rcases lt_or_ge code.toNat 6 with hcode | hcode
  · obtain ⟨n, hn, rfl⟩ : ∃ n < 6, BitVec.ofNat 14 n = code := ⟨code.toNat, hcode, by simp⟩
    interval_cases n <;> exact ⟨rfl, rfl⟩
  · rw [decodeEvent_reserved hcode]
    exact ⟨decide_eq_true hcode, rfl⟩

theorem decode_hasKey (t : Transaction) : (decode t).HasKey t.key := by
  obtain ⟨k, ops⟩ := t
  change (decode ⟨k, ops⟩).HasKey k
  obtain hcls | hcls | hcls | hcls := twoBits_cases (keyClass k)
  · rw [← busKey_fields k, hcls, decode_read]; exact decodeRead_hasKey _ _
  · rw [← busKey_fields k, hcls, decode_write]; exact decodeWrite_hasKey _ _ _
  · rw [← keyClass_append_keyCode k, hcls, decode_event]; exact decodeEvent_hasKey _ _
  · rw [← keyClass_append_keyCode k, hcls, decode_reservedClass]; exact ⟨rfl, rfl⟩

/-- Settles O4, by the four classes of a key. -/
theorem encodeOfDecodeKeepsKey : Obligations.EncodeOfDecodeKeepsKey := decode_hasKey

/-! ### The opcode table (R134) -/

section
open Sys2Proof.Laws Sys2Proof.Laws.KeyMatchesRow

/-- The family KeyMatchesRow, one lemma for each constructor, as one statement. -/
theorem encode_matches_row (i : Instr) : KeyMatchesRow.Statement i := by
  cases i
  exacts
    [rdHcRevision, wrHcRevision _, rdHcControl, wrHcControl _, rdHcCommandStatus, wrHcCommandStatus _,
    rdHcInterruptStatus, wrHcInterruptStatus _, rdHcInterruptEnable, wrHcInterruptEnable _, rdHcInterruptDisable,
    wrHcInterruptDisable _, rdHcHCCA, wrHcHCCA _, rdHcPeriodCurrentED, wrHcPeriodCurrentED _, rdHcControlHeadED,
    wrHcControlHeadED _, rdHcControlCurrentED, wrHcControlCurrentED _, rdHcBulkHeadED, wrHcBulkHeadED _,
    rdHcBulkCurrentED, wrHcBulkCurrentED _, rdHcDoneHead, wrHcDoneHead _, rdHcFmInterval, wrHcFmInterval _,
    rdHcFmRemaining, wrHcFmRemaining _, rdHcFmNumber, wrHcFmNumber _, rdHcPeriodicStart, wrHcPeriodicStart _,
    rdHcLSThreshold, wrHcLSThreshold _, rdHcRhDescriptorA, wrHcRhDescriptorA _, rdHcRhDescriptorB,
    wrHcRhDescriptorB _, rdHcRhStatus, wrHcRhStatus _, rdHcRhPortStatus1, wrHcRhPortStatus1 _, rdHcRhPortStatus2,
    wrHcRhPortStatus2 _, rdMisaligned1 _, rdMisaligned2 _, rdMisaligned3 _, wrMisaligned1 _ _, wrMisaligned2 _ _,
    wrMisaligned3 _ _, rdUnmapped _, wrUnmapped _ _, rd8 _, rd16 _, rd64 _, wr8 _, wr16 _, wr64 _, reservedClass _,
    fire _, attach _ _, detach _, prdone _, adv _, construct, reservedEvent _]

end

/-- A row found among those of one priority. -/
theorem firstHit_priority_some {n : Nat} {q : OpRow} {k : Key}
    (h : firstHit (opcodeTable.filter (·.priority == n)) k = some q) :
    q ∈ opcodeTable ∧ q.hits k = true ∧ q.priority = n := by
  rw [firstHit] at h
  obtain ⟨hmem, hpriority⟩ := List.mem_filter.mp (List.mem_of_find?_eq_some h)
  have hhits := List.find?_some h
  exact ⟨hmem, hhits, by simpa using hpriority⟩

theorem firstHit_priority_none {n : Nat} {r : OpRow} {k : Key} (hr : r ∈ opcodeTable) (hk : r.hits k = true)
    (h : firstHit (opcodeTable.filter (·.priority == n)) k = none) : r.priority ≠ n := fun hn =>
  absurd hk (List.find?_eq_none.mp h r (by simp [hr, hn]))

/-- Where a row matches, the table gives a matching row, and none with a larger priority number. -/
theorem tableRow_of_hits {r : OpRow} {k : Key} (hr : r ∈ opcodeTable) (hk : r.hits k = true) :
    ∃ q ∈ opcodeTable, tableRow k = some q ∧ q.hits k = true ∧ q.priority ≤ r.priority := by
  have hmax : r.priority ≤ 2 := (by decide : ∀ r ∈ opcodeTable, r.priority ≤ 2) r hr
  unfold tableRow
  cases h0 : firstHit (opcodeTable.filter (·.priority == 0)) k with
  | some q =>
    obtain ⟨hq, hqk, hqn⟩ := firstHit_priority_some h0
    exact ⟨q, hq, rfl, hqk, by omega⟩
  | none =>
    have hne0 := firstHit_priority_none hr hk h0
    cases h1 : firstHit (opcodeTable.filter (·.priority == 1)) k with
    | some q =>
      obtain ⟨hq, hqk, hqn⟩ := firstHit_priority_some h1
      exact ⟨q, hq, rfl, hqk, by omega⟩
    | none =>
      have hne1 := firstHit_priority_none hr hk h1
      cases h2 : firstHit (opcodeTable.filter (·.priority == 2)) k with
      | some q =>
        obtain ⟨hq, hqk, hqn⟩ := firstHit_priority_some h2
        exact ⟨q, hq, rfl, hqk, by omega⟩
      | none =>
        have hne2 := firstHit_priority_none hr hk h2
        omega

/-- Does the row fix all bits of a key? -/
def OpRow.isExact (r : OpRow) : Bool := r.mask == 0xFFFF#16

theorem OpRow.hits_of_isExact {r : OpRow} {k : Key} (hexact : r.isExact = true) (hk : r.hits k = true) :
    k = r.pattern := by
  have hmask : r.mask = BitVec.allOnes 16 := eq_of_beq hexact
  simpa [OpRow.hits, hmask, -BitVec.reduceAllOnes] using hk

/-- Do the rows differ on a bit that both fix? -/
def OpRow.clashes (r q : OpRow) : Bool := r.pattern &&& q.mask != q.pattern &&& r.mask

theorem OpRow.clashes_eq_false {r q : OpRow} {k : Key} (hr : r.hits k = true) (hq : q.hits k = true) :
    r.clashes q = false := by
  have hrk : k &&& r.mask = r.pattern := eq_of_beq hr
  have hqk : k &&& q.mask = q.pattern := eq_of_beq hq
  rw [OpRow.clashes, ← hrk, ← hqk, BitVec.and_assoc, BitVec.and_assoc, BitVec.and_comm q.mask,
    bne_self_eq_false]

/-- Does the row fix all bits, or clash with each row of another name and no lower priority number? -/
def OpRow.isUnrivalled (q : OpRow) : Bool :=
  q.isExact || opcodeTable.all fun r => decide (r.priority < q.priority) || r.clashes q || r.mnemonic == q.mnemonic

/-- The overlaps of R134's table: a key that two rows of different names match is the key of an exact row, and that row
has the lower priority number. -/
theorem isUnrivalled_of_mem {q : OpRow} (hq : q ∈ opcodeTable) : q.isUnrivalled = true := by
  have hread : ∀ q ∈ readRows, q.isUnrivalled = true := by decide
  have hwrite : ∀ q ∈ writeRows, q.isUnrivalled = true := by decide
  have htolerated : ∀ q ∈ toleratedRows, q.isUnrivalled = true := by decide
  have hwidth : ∀ q ∈ widthRows, q.isUnrivalled = true := by decide
  have hevent : ∀ q ∈ eventRows, q.isUnrivalled = true := by decide
  simp only [opcodeTable, List.mem_append, or_assoc] at hq
  obtain hq | hq | hq | hq | hq := hq
  · exact hread q hq
  · exact hwrite q hq
  · exact htolerated q hq
  · exact hwidth q hq
  · exact hevent q hq

/-- Of two rows that match a key, the one of no larger priority number has the other's name unless it is exact. -/
theorem mnemonic_eq_of_hits {r q : OpRow} {k : Key} (hr : r ∈ opcodeTable) (hq : q ∈ opcodeTable)
    (hrk : r.hits k = true) (hqk : q.hits k = true) (hle : q.priority ≤ r.priority) (hexact : q.isExact = false) :
    r.mnemonic = q.mnemonic := by
  have hrivals := isUnrivalled_of_mem hq
  rw [OpRow.isUnrivalled, hexact, Bool.false_or, List.all_eq_true] at hrivals
  simpa [hle.not_gt, OpRow.clashes_eq_false hrk hqk] using hrivals r hr

/-- The key of an exact row decodes to the row's instruction. -/
theorem decode_exactRow {q : OpRow} (hq : q ∈ opcodeTable) (hexact : q.isExact = true) (ops : TxOperands) :
    (decode ⟨q.pattern, ops⟩).mnemonic = q.mnemonic := by
  have hrows : (opcodeTable.filter OpRow.isExact).map (fun r => (decode ⟨r.pattern, ops⟩).mnemonic) =
      (opcodeTable.filter OpRow.isExact).map OpRow.mnemonic := by
    simp only [decode_mk]
    rfl
  exact List.map_inj_left.mp hrows q (List.mem_filter.mpr ⟨hq, hexact⟩)

/-- Settles O5: the row taken is exact, and then its one key decodes to its instruction, or it is not, and then it has
the name of the row that the encoding of the decoded instruction matches. -/
theorem decoderTakesLowestPriorityRow : Obligations.DecoderTakesLowestPriorityRow := by
  intro t
  obtain ⟨-, hkey⟩ := decode_hasKey t
  obtain ⟨r, hr, hname, hrk⟩ := encode_matches_row (decode t)
  rw [hkey] at hrk
  obtain ⟨q, hq, hrow, hqk, hle⟩ := tableRow_of_hits hr hrk
  rw [hrow, Option.map_some]
  congr 1
  cases hexact : q.isExact with
  | false => exact (mnemonic_eq_of_hits hr hq hrk hqk hle hexact).symm.trans hname
  | true =>
    have hpattern := OpRow.hits_of_isExact hexact hqk
    calc q.mnemonic = (decode ⟨q.pattern, t.operands⟩).mnemonic := (decode_exactRow hq hexact _).symm
      _ = (decode t).mnemonic := by rw [← hpattern]

/-! ### Operands outside their range (R133) -/

theorem withPort_badPort {n : Nat} (hone : n ≠ 1) (htwo : n ≠ 2) (s : State) (k : PortNo → Answer) :
    withPort n s k = .refused .badPort := by
  rw [withPort, PortNo.ofOperand, if_neg hone, if_neg htwo]

/-- Settles O53: the three events look their port up first, and ADV its number of ticks. -/
theorem operandsOutsideTheirRangeAreRefused : Obligations.OperandsOutsideTheirRangeAreRefused := by
  intro s n lowSpeed
  refine ⟨fun hone htwo => ?_, rfl⟩
  have hbad (k : PortNo → Answer) := withPort_badPort hone htwo s k
  exact ⟨hbad _, hbad _, hbad _⟩

end Sys2Proof

/-! PROOFS of the family 40_gateway.md: what a read and a write answer once constructed, the tolerated accesses,
and the round-trip law. -/

namespace Sys2Proof.Machine

open Sys2Proof

/-! ### What the gateway answers -/

theorem busRead_of_constructed {s : State} (hc : s.constructed = true) (v : Word) :
    busRead v s = .next { s with out := [.readData v] } := live_of_constructed hc _

theorem busWrite_of_constructed {s : State} (hc : s.constructed = true) (f : State → State) :
    busWrite f s = .next (updateInterrupt (f s.clearOut)) := live_of_constructed hc _

/-- A rule that leaves the line settled is the whole write: the final line update pushes nothing. -/
theorem busWrite_of_settled {s : State} {f : State → State} (hc : s.constructed = true)
    (hline : (f s.clearOut).lineSettled) : busWrite f s = .next (f s.clearOut) := by
  rw [busWrite_of_constructed hc, updateInterrupt_settled hline]

theorem inWindow_of_inside {offset : Nat} {s : State} (hin : offset < s.params.windowSize) (k : Answer) :
    inWindow offset s k = k := if_pos hin

/-! ### Tolerated accesses (R162 to R164) -/

theorem toleratedRead_of_inside {offset : Nat} {s : State} (hc : s.constructed = true)
    (hin : offset < s.params.windowSize) : toleratedRead offset s = .next { s with out := [.readData 0#32] } :=
  (inWindow_of_inside hin _).trans (busRead_of_constructed hc _)

theorem toleratedWrite_of_inside {offset : Nat} {s : State} (hc : s.constructed = true) (hline : s.lineSettled)
    (hin : offset < s.params.windowSize) : toleratedWrite offset s = .next { s with out := [] } :=
  (inWindow_of_inside hin _).trans (busWrite_of_settled (f := id) hc hline)

/-- Settles O14: each of the eight forms is a tolerated access at its own offset, and whether the four bytes overlap a
register is never asked. -/
theorem toleratedAccessesDoNothing : Obligations.ToleratedAccessesDoNothing := by
  intro s w v hc
  have hread {offset : Nat} := toleratedRead_of_inside (offset := offset) hc
  refine ⟨⟨hread, hread, hread, hread⟩, fun hline => ?_⟩
  have hwrite {offset : Nat} := toleratedWrite_of_inside (offset := offset) hc hline
  exact ⟨hwrite, hwrite, hwrite, hwrite⟩

/-! ### A read at once after a write (R168) -/

/-- The read shows what the register rule `f` stored, if the final line update between them leaves that alone. -/
theorem read_after_write {w r : Instr} (f : State → State) {shown : State → Word} {s : State} {x : Word}
    (hw : exec w s = busWrite f s) (hr : ∀ t, exec r t = busRead (shown t) t)
    (hs : s.constructed = true) (hf : (f s.clearOut).constructed = true)
    (hline : ∀ t, shown (updateInterrupt t) = shown t) (hstored : shown (f s.clearOut) = x) :
    ∃ a b, exec w s = .next a ∧ exec r a = .next b ∧ b.readResult = some x := by
  refine ⟨_, _, hw.trans (busWrite_of_constructed hs f), (hr _).trans (busRead_of_constructed ?_ _), ?_⟩
  · rw [updateInterrupt_constructed, hf]
  · exact congrArg some ((hline _).trans hstored)

/-- Masking the written value first changes nothing where every stored bit is within the mask: why the W1C form of R168
can leave the mask out. -/
theorem Within.and_not_masked {m x : Word} (hx : Within m x) (v : Word) : x &&& ~~~(v &&& m) = x &&& ~~~v := by
  rw [BitVec.not_and, BitVec.and_or_distrib_left, hx, BitVec.or_zero]

theorem hcfsOf_masked (v : Word) : hcfsOf (v &&& maskControl) = hcfsOf v := by
  have hbits : (v &&& maskControl).extractLsb' 6 2 = v.extractLsb' 6 2 := by
    refine BitVec.eq_of_getLsbD_eq fun i hi => ?_
    interval_cases i <;> simp [maskControl]
  rw [hcfsOf, hcfsOf, hbits]

theorem ControlFrame.constructed {s t : State} (h : ControlFrame s t) : t.constructed = s.constructed := by
  unfold ControlFrame at h
  exact (congrArg State.constructed h :)

/-- Only a transition into Reset rewrites HcControl (R321, R325). -/
theorem changeState_hcControl {old new : Hcfs} (h : new = .reset → old = .reset) (s : State) :
    (changeState old new s).hcControl = s.hcControl := by
  obtain ⟨-, heq⟩ | ⟨hne, hnew, -⟩ | ⟨-, -, heq⟩ | ⟨-, -, heq⟩ := changeState_cases old new s
  · rw [heq]
  · exact absurd ((h hnew).trans hnew.symm) hne
  · rw [heq]
    rfl
  · rw [heq]
    split <;> rfl

theorem writeControl_hcControl {v : Word} {s : State} (h : resets (.wrHcControl v) s = false) :
    (writeControl v s).hcControl = v &&& maskControl := by
  refine changeState_hcControl (fun hnew => ?_) _
  rw [hcfsOf_masked, hcfsOf_eq_reset_iff] at hnew
  simpa [resets, hnew] using h

theorem writeControl_constructed {v : Word} {s : State} (h : resets (.wrHcControl v) s = false) :
    (writeControl v s).constructed = s.constructed := by
  obtain ⟨hreset, -⟩ | ⟨-, hframe⟩ := writeControl_cases v s
  · exact absurd (h.symm.trans hreset) nofun
  · exact hframe.constructed

/-- Settles O21: the line update leaves every register alone, so the read shows what the register rule stored: the masked
value, the status without the written bits, or HcControl where no Reset zeroes it. -/
theorem roundTripLaw : Obligations.RoundTripLaw := by
  intro s v hc hreg
  refine ⟨?_, ?_, fun hreset => ?_⟩
  · simp only [List.forall_mem_cons, List.not_mem_nil, false_implies, implies_true, and_true]
    refine ⟨?_, ?_, ?_, ?_, ?_, ?_, ?_, ?_, ?_, ?_⟩
    · exact read_after_write (fun u => { u with hcHCCA := v &&& maskHCCA }) rfl (fun _ => rfl) hc hc
        updateInterrupt_hcHCCA rfl
    · exact read_after_write (fun u => { u with hcPeriodCurrentED := v &&& maskED }) rfl (fun _ => rfl) hc hc
        updateInterrupt_hcPeriodCurrentED rfl
    · exact read_after_write (fun u => { u with hcControlHeadED := v &&& maskED }) rfl (fun _ => rfl) hc hc
        updateInterrupt_hcControlHeadED rfl
    · exact read_after_write (fun u => { u with hcControlCurrentED := v &&& maskED }) rfl (fun _ => rfl) hc hc
        updateInterrupt_hcControlCurrentED rfl
    · exact read_after_write (fun u => { u with hcBulkHeadED := v &&& maskED }) rfl (fun _ => rfl) hc hc
        updateInterrupt_hcBulkHeadED rfl
    · exact read_after_write (fun u => { u with hcBulkCurrentED := v &&& maskED }) rfl (fun _ => rfl) hc hc
        updateInterrupt_hcBulkCurrentED rfl
    · exact read_after_write (fun u => { u with hcDoneHead := v &&& maskED }) rfl (fun _ => rfl) hc hc
        updateInterrupt_hcDoneHead rfl
    · exact read_after_write (writeFmInterval v) rfl (fun _ => rfl) hc hc
        updateInterrupt_hcFmInterval rfl
    · exact read_after_write (fun u => { u with hcPeriodicStart := v &&& maskPeriodicStart }) rfl (fun _ => rfl) hc hc
        updateInterrupt_hcPeriodicStart rfl
    · exact read_after_write (fun u => { u with hcLSThreshold := v &&& maskLSThreshold }) rfl (fun _ => rfl) hc hc
        updateInterrupt_hcLSThreshold rfl
  · have hstatus : Within maskStatus s.hcInterruptStatus :=
      (registersInv_iff.mp hreg).hcInterruptStatus.mono (by decide)
    exact read_after_write (fun u => { u with hcInterruptStatus := u.hcInterruptStatus &&& ~~~(v &&& maskStatus) }) rfl
      (fun _ => rfl) hc hc updateInterrupt_hcInterruptStatus (hstatus.and_not_masked v)
  · have hclear : resets (.wrHcControl v) s.clearOut = false := hreset
    exact read_after_write (writeControl v) rfl (fun _ => rfl) hc ((writeControl_constructed hclear).trans hc)
      updateInterrupt_hcControl (writeControl_hcControl hclear)

end Sys2Proof.Machine

/-! PROOFS of the family 41_control_status.md: the reads and writes of the control and status registers, the line an
interrupt register write leaves, and the transitions of HcControl and HCR. -/

namespace Sys2Proof.Machine

open Sys2Proof

/-! ### Reads, and writes of read-only registers -/

/-- Settles O8: each of the six reads is a bus read of the value its register holds. -/
theorem controlRegisterReads : Obligations.ControlRegisterReads := by
  intro s hc
  have hread := busRead_of_constructed hc
  exact ⟨hread _, hread _, hread _, hread _, hread _, hread _⟩

/-- Settles O17: each of the five writes has the register rule that does nothing, and a settled line needs no push. -/
theorem readOnlyWritesSkip : Obligations.ReadOnlyWritesSkip := by
  intro s v hc hline
  have hskip : busWrite id s = .next { s with out := [] } := busWrite_of_settled (f := id) hc hline
  exact ⟨hskip, hskip, hskip, hskip, hskip⟩

/-! ### The interrupt registers and the line -/

/-- The level and the push of `UpdateInterrupt()` as the statements write them, by the two interrupt registers alone. -/
theorem updateInterrupt_eq_pushIfNew (s : State) :
    updateInterrupt s = { s with
      irqLevel := levelOf s.hcInterrupt s.hcInterruptStatus
      out := s.out ++ pushIfNew s.params.irqNum s.irqLevel (levelOf s.hcInterrupt s.hcInterruptStatus) } := by
  have hpush (line : Nat) (old new : Bool) :
      (if new = old then [] else [irqPush line new]) = pushIfNew line old new := by
    cases new <;> rfl
  rw [updateInterrupt_eq, hpush]
  rfl

/-- Settles O23: the final line update of each write finds the new register, and its push is the write's only output. -/
theorem interruptRegisterWrites : Obligations.InterruptRegisterWrites := by
  intro s v hc
  have hwrite (f : State → State) := (busWrite_of_constructed hc f).trans
    (congrArg Host.Outcome.next (updateInterrupt_eq_pushIfNew (f s.clearOut)))
  exact ⟨hwrite fun u => { u with hcInterruptStatus := u.hcInterruptStatus &&& ~~~(v &&& maskStatus) },
    hwrite fun u => { u with hcInterrupt := u.hcInterrupt ||| (v &&& maskInterrupt) },
    hwrite fun u => { u with hcInterrupt := u.hcInterrupt &&& ~~~(v &&& maskInterrupt) }⟩

/-! ### The command register and the Reset procedure -/

/-- The mask of the command bits lets HCR through; where HCR is clear that bit makes no difference. -/
theorem commandBits_of_hcr_clear {v : Word} (hhcr : v.getLsbD 0 = false) :
    v &&& maskCommandStatus = v &&& 0x0000000E#32 := by
  refine BitVec.eq_of_getLsbD_eq fun i hi => ?_
  rw [BitVec.getLsbD_and, BitVec.getLsbD_and]
  cases i with
  | zero => rw [hhcr, Bool.false_and, Bool.false_and]
  | succ i =>
    have hmask : ∀ j < 31, maskCommandStatus.getLsbD (j + 1) = (0x0000000E#32).getLsbD (j + 1) := by decide
    rw [hmask i (by omega)]

/-- Settles O29: the register rule sets the written command bits, which the line does not depend on. -/
theorem commandBitsAreSet : Obligations.CommandBitsAreSet := by
  intro s v hc hline hhcr
  obtain ⟨hreset, -⟩ | ⟨-, hstore⟩ := writeCommandStatus_cases v s.clearOut
  · exact absurd (hhcr.symm.trans hreset) nofun
  · rw [commandBits_of_hcr_clear hhcr] at hstore
    have hsettled : (writeCommandStatus v s.clearOut).lineSettled := hstore ▸ hline
    exact (busWrite_of_settled hc hsettled).trans (congrArg Host.Outcome.next hstore)

/-- The Reset procedure clears the enables, so the line update after it can only deassert. -/
theorem updateInterrupt_resetProcedure (s : State) :
    updateInterrupt (resetProcedure s) = { s.resetValues with
      out := s.out ++ .disarm :: pushIfNew s.params.irqNum s.irqLevel false } := by
  have hlevel : levelOf (resetProcedure s).hcInterrupt (resetProcedure s).hcInterruptStatus = false :=
    show levelOf 0#32 0#32 = false by decide
  have hout : s.out ++ .disarm :: pushIfNew s.params.irqNum s.irqLevel false
      = (s.out ++ [.disarm]) ++ pushIfNew s.params.irqNum s.irqLevel false := by simp
  rw [updateInterrupt_eq_pushIfNew, hlevel, resetProcedure_eq, hout]
  rfl

/-- Settles O30: HCR runs the Reset procedure whatever the state is. -/
theorem hcrGivesResetValues : Obligations.HcrGivesResetValues := by
  intro s v hc hhcr
  obtain ⟨-, hrule⟩ | ⟨hreset, -⟩ := writeCommandStatus_cases v s.clearOut
  · calc exec (.wrHcCommandStatus v) s
        = .next (updateInterrupt (writeCommandStatus v s.clearOut)) := busWrite_of_constructed hc _
      _ = .next (updateInterrupt (resetProcedure s.clearOut)) := by rw [hrule]
      _ = _ := congrArg Host.Outcome.next (updateInterrupt_resetProcedure s.clearOut)
  · exact absurd (hhcr.symm.trans hreset) nofun

/-! ### The transitions of HcControl -/

theorem Hcfs.ofBits_inj {a b : BitVec 2} : Hcfs.ofBits a = Hcfs.ofBits b ↔ a = b := by decide +revert

theorem hcfsOf_eq_operational_iff (control : Word) :
    hcfsOf control = .operational ↔ control.extractLsb' 6 2 = 2#2 :=
  Hcfs.ofBits_inj (b := 2#2)

/-- The bits that write Suspend or Resume (R35). -/
theorem hcfsOf_idle {control : Word} (h : control.extractLsb' 6 2 = 1#2 ∨ control.extractLsb' 6 2 = 3#2) :
    hcfsOf control = .suspend ∨ hcfsOf control = .resume :=
  h.symm.imp (congrArg Hcfs.ofBits) (congrArg Hcfs.ofBits)

theorem changeState_same (old : Hcfs) (s : State) : changeState old old s = s := if_pos rfl

theorem changeState_operational {old : Hcfs} (hold : old ≠ .operational) (s : State) :
    changeState old .operational s = enterOperational s := by
  simp [changeState, hold]

theorem changeState_reset {old : Hcfs} (hold : old ≠ .reset) (s : State) :
    changeState old .reset s = resetProcedure (if old = .operational then leaveOperational s else s) := by
  simp [changeState, hold]

/-- Suspend and Resume have no entry action: from Operational the exit action is the whole transition. -/
theorem changeState_operational_idle {new : Hcfs} (hnew : new = .suspend ∨ new = .resume) (s : State) :
    changeState .operational new s = leaveOperational s := by
  rcases hnew with rfl | rfl <;> rfl

/-- Between two states other than Operational, and not into Reset, nothing is done. -/
theorem changeState_idle {old new : Hcfs} (hold : old ≠ .operational) (hnew : new = .suspend ∨ new = .resume)
    (s : State) : changeState old new s = s := by
  rcases hnew with rfl | rfl <;> simp [changeState, hold]

theorem writeControl_eq (v : Word) (s : State) :
    writeControl v s = changeState s.hcfs (hcfsOf v) { s with hcControl := v &&& maskControl } := by
  rw [writeControl, hcfsOf_masked]

/-- A transition that leaves the line settled is the whole write. -/
theorem wrHcControl_of_settled {v : Word} {s t : State} (hc : s.constructed = true)
    (hrule : changeState s.hcfs (hcfsOf v) { s with hcControl := v &&& maskControl, out := [] } = t)
    (hline : t.lineSettled) : exec (.wrHcControl v) s = .next t := by
  have hwrite : writeControl v s.clearOut = t := (writeControl_eq v s.clearOut).trans hrule
  subst hwrite
  exact busWrite_of_settled hc hline

/-- Settles O31: no entry or exit action runs where HCFS stays, nor on the way to Suspend or Resume from a state other
than Operational. -/
theorem controlWriteStoresOnly : Obligations.ControlWriteStoresOnly := by
  intro s v hc hline hbits
  refine wrHcControl_of_settled hc ?_ hline
  obtain hsame | ⟨hold, hnew⟩ := hbits
  · have hstay : hcfsOf v = s.hcfs := congrArg Hcfs.ofBits hsame
    rw [hstay, changeState_same]
    rfl
  · exact changeState_idle (mt (hcfsOf_eq_operational_iff _).mp hold) (hcfsOf_idle hnew) _

/-- The reload takes FIT and FI, bits 31 and 13 to 0 of HcFmInterval (R323). -/
theorem reloadValue_eq (fmInterval : Word) : reloadValue fmInterval = fmInterval &&& 0x80003FFF#32 := by
  have hcount : (frameField fmInterval).setWidth 32 = fmInterval &&& 0x00003FFF#32 := by
    refine BitVec.eq_of_getLsbD_eq fun i hi => ?_
    interval_cases i <;> simp [frameField]
  rw [reloadValue, hcount, maskToggle, ← BitVec.and_or_distrib_left]
  rfl

/-- Settles O32: the entry action is the whole transition, since the state left is not Operational. -/
theorem enteringOperational : Obligations.EnteringOperational := by
  intro s v hc hline hold hnew
  have hne : s.hcfs ≠ .operational := mt (hcfsOf_eq_operational_iff _).mp hold
  refine wrHcControl_of_settled hc ?_ hline
  rw [(hcfsOf_eq_operational_iff v).mpr hnew, changeState_operational hne, enterOperational_eq, reloadValue_eq]
  rfl

/-- Settles O33: the exit action is the whole transition, and the countdown it stores is the live one at that tick. -/
theorem leavingOperational : Obligations.LeavingOperational := by
  intro s v hc hline hold hnew
  have hop : s.hcfs = .operational := (hcfsOf_eq_operational_iff _).mpr hold
  refine wrHcControl_of_settled hc ?_ hline
  rw [hop, changeState_operational_idle (hcfsOf_idle hnew), leaveOperational_eq]
  rfl

/-- Settles O34: the Reset procedure overwrites the stored value and the frozen countdown, so of the state left only the
Disarm of the exit action remains. -/
theorem controlWriteIntoReset : Obligations.ControlWriteIntoReset := by
  intro s v hc hold hnew
  have hne : s.hcfs ≠ .reset := mt (hcfsOf_eq_reset_iff _).mp hold
  have hop : s.hcfs = .operational ↔ s.hcControl.extractLsb' 6 2 = 2#2 := hcfsOf_eq_operational_iff _
  calc exec (.wrHcControl v) s
      = .next (updateInterrupt (writeControl v s.clearOut)) := busWrite_of_constructed hc _
    _ = .next (updateInterrupt (resetProcedure (if s.hcfs = .operational
          then leaveOperational { s with hcControl := v &&& maskControl, out := [] }
          else { s with hcControl := v &&& maskControl, out := [] }))) := by
        rw [writeControl_eq, (hcfsOf_eq_reset_iff v).mpr hnew]
        exact congrArg (Host.Outcome.next ∘ updateInterrupt) (changeState_reset hne _)
    _ = _ := by
        rw [updateInterrupt_resetProcedure]
        simp only [hop]
        split <;> rfl

end Sys2Proof.Machine

/-! PROOFS of the family 42_pointers.md: the reads of the memory pointer registers, and the masked stores. -/

namespace Sys2Proof.Machine

open Sys2Proof

/-- Settles O9: each of the seven reads is a bus read of the stored pointer. -/
theorem pointerRegisterReads : Obligations.PointerRegisterReads := by
  intro s hc
  have hread := busRead_of_constructed hc
  exact ⟨hread _, hread _, hread _, hread _, hread _, hread _, hread _⟩

/-- A register rule that leaves the line and the two registers its level is computed from as they were is the whole
write: the settled line stays settled. -/
theorem busWrite_of_lineKept {s : State} (hc : s.constructed = true) (hline : s.lineSettled) (f : State → State)
    (hlevel : (f s.clearOut).irqLevel = s.irqLevel) (henable : (f s.clearOut).hcInterrupt = s.hcInterrupt)
    (hstatus : (f s.clearOut).hcInterruptStatus = s.hcInterruptStatus) : busWrite f s = .next (f s.clearOut) := by
  refine busWrite_of_settled hc ?_
  rw [State.lineSettled, State.intLevel, hlevel, henable, hstatus]
  exact hline

/-- Settles O18: each of the nine writes has a register rule that stores the masked value and keeps clear of the line. -/
theorem maskedStores : Obligations.MaskedStores := by
  intro s v hc hline
  have hstore := busWrite_of_lineKept hc hline
  exact ⟨hstore (fun u => { u with hcHCCA := v &&& maskHCCA }) rfl rfl rfl,
    hstore (fun u => { u with hcPeriodCurrentED := v &&& maskED }) rfl rfl rfl,
    hstore (fun u => { u with hcControlHeadED := v &&& maskED }) rfl rfl rfl,
    hstore (fun u => { u with hcControlCurrentED := v &&& maskED }) rfl rfl rfl,
    hstore (fun u => { u with hcBulkHeadED := v &&& maskED }) rfl rfl rfl,
    hstore (fun u => { u with hcBulkCurrentED := v &&& maskED }) rfl rfl rfl,
    hstore (fun u => { u with hcDoneHead := v &&& maskED }) rfl rfl rfl,
    hstore (fun u => { u with hcPeriodicStart := v &&& maskPeriodicStart }) rfl rfl rfl,
    hstore (fun u => { u with hcLSThreshold := v &&& maskLSThreshold }) rfl rfl rfl⟩

end Sys2Proof.Machine

/-! PROOFS of the family 43_frame_registers.md: the reads of the frame registers and the descriptors, the live countdown,
and the write of HcFmInterval. -/

namespace Sys2Proof.Machine

open Sys2Proof

/-! ### The live countdown -/

/-- A field that lies outside the mask is clear. -/
theorem Within.extractLsb'_eq_zero {m x : Word} (hx : Within m x) {start len : Nat}
    (hm : (~~~m).extractLsb' start len = BitVec.allOnes len) : x.extractLsb' start len = 0#len := by
  have hfield := congrArg (BitVec.extractLsb' start len) hx
  rwa [BitVec.extractLsb'_and, hm, BitVec.and_allOnes, BitVec.extractLsb'_zero] at hfield

/-- FR of a toggle bit with a count: the toggle lies outside the field. -/
theorem frameField_toggle_or_count (v : Word) (n : Nat) :
    frameField ((v &&& maskToggle) ||| BitVec.ofNat 32 n) = BitVec.ofNat 14 n := by
  have hmask : maskToggle.extractLsb' 0 14 = 0#14 := by decide
  rw [frameField, BitVec.extractLsb'_or, BitVec.extractLsb'_and, hmask, BitVec.and_zero, BitVec.zero_or,
    ← BitVec.setWidth_eq_extractLsb' (by decide), BitVec.setWidth_ofNat_of_le (by decide)]

/-- FRT of a toggle bit with a 14-bit count: the count lies below it. -/
theorem toggle_of_toggle_or_count (v : Word) {n : Nat} (hn : n < 2 ^ 14) :
    ((v &&& maskToggle) ||| BitVec.ofNat 32 n).getLsbD 31 = v.getLsbD 31 := by
  have hcount : n.testBit 31 = false := Nat.testBit_lt_two_pow (hn.trans (by decide))
  have hmask : maskToggle.getLsbD 31 = true := by decide
  rw [BitVec.getLsbD_or, BitVec.getLsbD_and, hmask, BitVec.getLsbD_ofNat, hcount, Bool.and_true, Bool.and_false,
    Bool.or_false]

/-- Settles O11: the count stays below 2^14, so it neither loses a bit to FR nor reaches the toggle or the bits between
them. -/
theorem fmRemainingReadsLiveCountdown : Obligations.FmRemainingReadsLiveCountdown := by
  intro s hc
  have hop : s.hcfs = .operational ↔ s.hcControl.extractLsb' 6 2 = 2#2 := hcfsOf_eq_operational_iff _
  refine ⟨s.fmRemainingRead, busRead_of_constructed hc _, fun hidle => if_neg (mt hop.mp hidle), fun hrun => ?_⟩
  have hlive : s.fmRemainingRead = s.liveRemaining := if_pos (hop.mpr hrun)
  have hcount : (frameField s.hcFmRemaining).toNat - s.elapsed < 2 ^ 14 :=
    (Nat.sub_le _ _).trans_lt (frameField s.hcFmRemaining).isLt
  rw [hlive]
  exact ⟨frameField_toggle_or_count _ _, toggle_of_toggle_or_count _ hcount,
    (liveRemaining_within s).extractLsb'_eq_zero (by decide)⟩

/-! ### The other reads -/

/-- FN with a zero pad is the low half of HcFmNumber (R43, R244). -/
theorem fn_setWidth (s : State) : s.fn.setWidth 32 = s.hcFmNumber &&& 0x0000FFFF#32 := by
  refine BitVec.eq_of_toNat_eq ?_
  rw [State.fn, BitVec.toNat_setWidth_of_le (by decide), BitVec.extractLsb'_toNat, Nat.shiftRight_zero]
  exact (Nat.and_two_pow_sub_one_eq_mod s.hcFmNumber.toNat 16).symm

/-- Settles O10: each of the six reads is a bus read of what its register holds, HcFmNumber of FN alone. -/
theorem frameAndDescriptorReads : Obligations.FrameAndDescriptorReads := by
  intro s hc
  have hread := busRead_of_constructed hc
  have hnumber : exec .rdHcFmNumber s = busRead (s.hcFmNumber &&& 0x0000FFFF#32) s :=
    congrArg (busRead · s) (fn_setWidth s)
  exact ⟨hread _, hnumber.trans (hread _), hread _, hread _, hread _, hread _⟩

/-! ### The write of HcFmInterval -/

/-- The write mask drops bits 15 and 14 only, so FI and FIT are those of the written value (R241). -/
theorem writeFmInterval_eq (v : Word) (s : State) :
    writeFmInterval v s = { s with
      hcFmInterval := v &&& maskFmInterval
      fiPending := s.fiPending || (v.getLsbD 31 != s.hcFmInterval.getLsbD 31)
      usbFrameTime := frameTime s.params (frameField v) } := by
  have hfi : frameField (v &&& maskFmInterval) = frameField v := by
    have hmask : maskFmInterval.extractLsb' 0 14 = BitVec.allOnes 14 := by decide
    rw [frameField, BitVec.extractLsb'_and, hmask, BitVec.and_allOnes, frameField]
  have hfit : (v &&& maskFmInterval).getLsbD 31 = v.getLsbD 31 := by
    have hmask : maskFmInterval.getLsbD 31 = true := by decide
    rw [BitVec.getLsbD_and, hmask, Bool.and_true]
  rw [writeFmInterval, hfi, hfit]

/-- Settles O19: the register rule keeps clear of the line, so it is the whole write. -/
theorem fmIntervalWrite : Obligations.FmIntervalWrite := by
  intro s v hc hline
  calc exec (.wrHcFmInterval v) s
      = .next (writeFmInterval v s.clearOut) := busWrite_of_lineKept hc hline (writeFmInterval v) rfl rfl rfl
    _ = _ := congrArg Host.Outcome.next (writeFmInterval_eq v s.clearOut)

end Sys2Proof.Machine

/-! PROOFS of the family 44_root_hub_registers.md: the reads of the root hub, the write of HcRhStatus, and the write of a
port register. -/

namespace Sys2Proof.Machine

open Sys2Proof

/-! ### The reads -/

theorem bitAt_getLsbD {i : Nat} (hi : i < 32) (b : Bool) (k : Nat) : (bitAt b i).getLsbD k = (b && decide (i = k)) := by
  cases b
  · exact BitVec.getLsbD_zero
  · exact bitMask_getLsbD hi k

theorem bitAt_within {m : Word} {i : Nat} (hm : Within m (bitMask i)) (b : Bool) : Within m (bitAt b i) := by
  cases b
  · exact within_zero m
  · exact hm

/-- Each field of the record shows at its own bit (R61). -/
theorem portView_getLsbD (q : Port) (k : Nat) :
    (portView q).getLsbD k = (q.ccs && decide (0 = k) || q.pes && decide (1 = k) || q.pss && decide (2 = k)
      || q.poci && decide (3 = k) || q.prs && decide (4 = k) || q.pps && decide (8 = k) || q.lsda && decide (9 = k)
      || q.csc && decide (16 = k) || q.pesc && decide (17 = k) || q.pssc && decide (18 = k)
      || q.ocic && decide (19 = k) || q.prsc && decide (20 = k)) := by
  simp [portView, bitAt_getLsbD]

/-- A port register shows no bit outside its mask (R61). -/
theorem portView_within (q : Port) : Within maskPortStatus (portView q) := by
  unfold portView
  iterate 11 refine Within.or ?_ (bitAt_within (by decide) _)
  exact bitAt_within (by decide) _

/-- What HcRhStatus shows is OCI, DRWE and OCIC (R274). -/
theorem rhStatusRead_getLsbD (v : Word) (i : Nat) :
    (rhStatusRead v).getLsbD i = ((i == 1 || i == 15 || i == 17) && v.getLsbD i) := by
  have hmask : maskRhStatusRead = bitMask 1 ||| bitMask 15 ||| bitMask 17 := by decide
  have hbits : maskRhStatusRead.getLsbD i = (i == 1 || i == 15 || i == 17) := by
    simp [hmask, bitMask_getLsbD, Bool.beq_eq_decide_eq, eq_comm]
  rw [rhStatusRead, BitVec.getLsbD_and, hbits, Bool.and_comm]

/-- Settles O12: both views are bus reads, of the three stored bits and of the port's record. -/
theorem rootHubReads : Obligations.RootHubReads := by
  intro s hc
  refine ⟨⟨_, busRead_of_constructed hc _, rhStatusRead_getLsbD _⟩,
    fun p => ⟨portView (s.port p), ?_, ?_, portView_within _⟩⟩
  · cases p <;> exact busRead_of_constructed hc _
  · simp only [portView_getLsbD]
    simp

/-! ### Power and the two stored bits of HcRhStatus -/

theorem getLsbD_masked {m : Word} {i : Nat} (hm : m.getLsbD i = true) (v : Word) :
    (v &&& m).getLsbD i = v.getLsbD i := by
  rw [BitVec.getLsbD_and, hm, Bool.and_true]

theorem modifyPort_self {p : PortNo} {f : Port → Port} {s : State} (hf : f (s.port p) = s.port p) :
    modifyPort p f s = s := by
  cases p
  · exact congrArg (fun q => { s with port1 := q }) hf
  · exact congrArg (fun q => { s with port2 := q }) hf

theorem powerResult_none (nps : Bool) (q : Port) : powerResult nps false false q = q := by
  cases nps <;> simp [powerResult]

/-- Power off first and power on after it are one change of the record: on wins (R280, R275). -/
theorem powerResult_off_on (nps off on : Bool) (q : Port) :
    powerResult nps false on (powerResult nps off false q) = powerResult nps off on q := by
  cases nps <;> simp [powerResult]

theorem whenSet_portPowerOff (off : Bool) (p : PortNo) (s : State) :
    whenSet off (portPowerOff p) s = modifyPort p (powerResult s.params.nps off false) s := by
  cases off
  · exact (modifyPort_self (powerResult_none _ _)).symm
  · cases hnps : s.params.nps
    · have hoff : Port.powerOff = powerResult false true false := by
        funext q
        simp [Port.powerOff, powerResult]
      rw [whenSet_true, portPowerOff_switched hnps, hoff]
    · exact (portPowerOff_nps hnps p).trans (modifyPort_self rfl).symm

theorem whenSet_portPowerOn (on : Bool) (p : PortNo) (s : State) :
    whenSet on (portPowerOn p) s = modifyPort p (powerResult s.params.nps false on) s := by
  cases on
  · exact (modifyPort_self (powerResult_none _ _)).symm
  · cases hnps : s.params.nps
    · have hon : (fun q : Port => { q with pps := true }) = powerResult false false true := by
        funext q
        simp [powerResult]
      rw [whenSet_true, portPowerOn_switched hnps, hon]
    · exact (portPowerOn_nps hnps p).trans (modifyPort_self rfl).symm

/-- ClearGlobalPower where its bit is written: every port goes off, unless NPS = 1 (R286). -/
theorem whenSet_clearGlobalPower (off : Bool) (s : State) :
    whenSet off clearGlobalPower s = { s with
      port1 := powerResult s.params.nps off false s.port1
      port2 := powerResult s.params.nps off false s.port2 } := by
  have hports : whenSet off clearGlobalPower s = whenSet off (portPowerOff .two) (whenSet off (portPowerOff .one) s) := by
    cases off <;> rfl
  rw [hports, whenSet_portPowerOff, whenSet_portPowerOff]
  rfl

/-- SetGlobalPower where its bit is written: every port goes on, unless NPS = 1 (R285). -/
theorem whenSet_setGlobalPower (on : Bool) (s : State) :
    whenSet on setGlobalPower s = { s with
      port1 := powerResult s.params.nps false on s.port1
      port2 := powerResult s.params.nps false on s.port2 } := by
  have hports : whenSet on setGlobalPower s = whenSet on (portPowerOn .two) (whenSet on (portPowerOn .one) s) := by
    cases on <;> rfl
  rw [hports, whenSet_portPowerOn, whenSet_portPowerOn]
  rfl

theorem writeBit_getLsbD {i : Nat} (hi : i < 32) (v : Word) (b : Bool) (k : Nat) :
    (writeBit v i b).getLsbD k = if i = k then b else v.getLsbD k := by
  have hlt : v.getLsbD k = true → k < 32 := BitVec.lt_of_getLsbD
  cases b
  · simp only [writeBit, Bool.false_eq_true, if_false, BitVec.getLsbD_and, BitVec.getLsbD_not, bitMask_getLsbD hi]
    grind
  · simp only [writeBit, if_true, BitVec.getLsbD_or, bitMask_getLsbD hi]
    grind

/-- A register value after a field write that happens where `x` is set. -/
def writeBitIf (x : Bool) (i : Nat) (b : Bool) (v : Word) : Word := if x then writeBit v i b else v

theorem writeBitIf_getLsbD {i : Nat} (hi : i < 32) (x b : Bool) (v : Word) (k : Nat) :
    (writeBitIf x i b v).getLsbD k = if x = true ∧ i = k then b else v.getLsbD k := by
  cases x
  · simp [writeBitIf]
  · simp [writeBitIf, writeBit_getLsbD hi]

theorem whenSet_writeRhStatusBit (x : Bool) (i : Nat) (b : Bool) (s : State) :
    whenSet x (writeRhStatusBit i b) s = { s with hcRhStatus := writeBitIf x i b s.hcRhStatus } := by
  cases x <;> rfl

/-- HcRhStatus after a write of `v`: DRWE set, OCIC cleared, DRWE cleared (R275). -/
def rhStatusStored (v old : Word) : Word :=
  writeBitIf (v.getLsbD 31) 15 false (writeBitIf (v.getLsbD 17) 17 false (writeBitIf (v.getLsbD 15) 15 true old))

theorem rhStatusStored_getLsbD (v old : Word) (k : Nat) :
    (rhStatusStored v old).getLsbD k =
      if k = 15 then (old.getLsbD 15 || v.getLsbD 15) && !v.getLsbD 31
      else if k = 17 then old.getLsbD 17 && !v.getLsbD 17
      else old.getLsbD k := by
  simp only [rhStatusStored, writeBitIf_getLsbD (by decide : 15 < 32), writeBitIf_getLsbD (by decide : 17 < 32)]
  grind

theorem rhStatusStored_other (v old : Word) :
    rhStatusStored v old &&& ~~~0x00028000#32 = old &&& ~~~0x00028000#32 := by
  have hmask : 0x00028000#32 = bitMask 15 ||| bitMask 17 := by decide
  refine BitVec.eq_of_getLsbD_eq fun k _ => ?_
  rw [BitVec.getLsbD_and, BitVec.getLsbD_and, rhStatusStored_getLsbD, hmask, BitVec.getLsbD_not, BitVec.getLsbD_or,
    bitMask_getLsbD (by decide), bitMask_getLsbD (by decide)]
  grind

/-- The five commands in closed form: the write mask lets their bits through, power and the stored bits do not meet, and
on comes after off (R275). -/
theorem rhStatusCommands_masked (v : Word) (s : State) :
    rhStatusCommands (v &&& maskRhStatus) s = { s with
      hcRhStatus := rhStatusStored v s.hcRhStatus
      port1 := powerResult s.params.nps (v.getLsbD 0) (v.getLsbD 16) s.port1
      port2 := powerResult s.params.nps (v.getLsbD 0) (v.getLsbD 16) s.port2 } := by
  simp (disch := decide) only [rhStatusCommands, getLsbD_masked, whenSet_writeRhStatusBit, whenSet_setGlobalPower,
    whenSet_clearGlobalPower, powerResult_off_on, rhStatusStored]

/-- Settles O48: the commands keep clear of the line, so they are the whole write. -/
theorem rhStatusWrite : Obligations.RhStatusWrite := by
  intro s v hc hline
  have hrule := rhStatusCommands_masked v s.clearOut
  have hsettled : (rhStatusCommands (v &&& maskRhStatus) s.clearOut).lineSettled := hrule ▸ hline
  refine ⟨_, (busWrite_of_settled hc hsettled).trans (congrArg Host.Outcome.next hrule),
    ⟨rhStatusStored_getLsbD v _ 15, rhStatusStored_getLsbD v _ 17, rhStatusStored_other v _⟩, fun p => ?_, rfl⟩
  cases p <;> rfl

/-! ### A port record on its way through a write

A port write changes one record and, where a command raises a change bit, sets RHSC and updates the line. However many
commands raise a bit, the line moves at the first one only, so the state on the way is fixed by the record and by whether
a bit was raised. -/

/-- The state `s` with the record `q` at port `p` and, where a change bit was raised, RHSC with the line it gives. -/
def portOutcome (p : PortNo) (q : Port) (raised : Bool) (s : State) : State :=
  whenSet raised (setInterrupt (bitMask bitRHSC)) (modifyPort p (fun _ => q) s)

theorem portOutcome_self (p : PortNo) (s : State) : portOutcome p (s.port p) false s = s :=
  modifyPort_self (f := fun _ => s.port p) rfl

@[simp] theorem portOutcome_port_same (p : PortNo) (q : Port) (raised : Bool) (s : State) :
    (portOutcome p q raised s).port p = q := by
  cases raised <;> simp [portOutcome, whenSet]

theorem portOutcome_port_other {p r : PortNo} (hr : r ≠ p) (q : Port) (raised : Bool) (s : State) :
    (portOutcome p q raised s).port r = s.port r := by
  have hport := modifyPort_port_other p r (fun _ => q) s hr
  cases raised
  · exact hport
  · exact (setInterrupt_port _ _ r).trans hport

theorem portOutcome_portFrame (p : PortNo) (q : Port) (raised : Bool) (s : State) :
    PortFrame s (portOutcome p q raised s) :=
  (modifyPort_portFrame p _ s).trans (whenSet_portFrame (setInterrupt_portFrame _) _)

@[simp] theorem portOutcome_params (p : PortNo) (q : Port) (raised : Bool) (s : State) :
    (portOutcome p q raised s).params = s.params := (congrArg State.params (portOutcome_portFrame p q raised s) :)

@[simp] theorem portOutcome_now (p : PortNo) (q : Port) (raised : Bool) (s : State) :
    (portOutcome p q raised s).now = s.now := (congrArg State.now (portOutcome_portFrame p q raised s) :)

/-- The interrupt engine and the ports do not meet. -/
theorem setInterrupt_modifyPort (bits : Word) (p : PortNo) (f : Port → Port) (s : State) :
    setInterrupt bits (modifyPort p f s) = modifyPort p f (setInterrupt bits s) := by
  cases p <;> simp only [setInterrupt_eq, updateInterrupt_eq] <;> rfl

/-- A status bit set twice is set once: the second update finds the bit set and the line settled. -/
theorem setInterrupt_idem (bits : Word) (s : State) : setInterrupt bits (setInterrupt bits s) = setInterrupt bits s := by
  have hstatus : (setInterrupt bits s).hcInterruptStatus ||| (bits &&& maskStatus)
      = (setInterrupt bits s).hcInterruptStatus := by
    rw [setInterrupt_eq, updateInterrupt_hcInterruptStatus, BitVec.or_assoc, BitVec.or_self]
  rw [setInterrupt_eq bits (setInterrupt bits s), hstatus]
  exact updateInterrupt_idem _

theorem modifyPort_modifyPort (p : PortNo) (f g : Port → Port) (s : State) :
    modifyPort p f (modifyPort p g s) = modifyPort p (f ∘ g) s := by
  cases p <;> rfl

theorem modifyPort_portOutcome (p : PortNo) (f : Port → Port) (q : Port) (raised : Bool) (s : State) :
    modifyPort p f (portOutcome p q raised s) = portOutcome p (f q) raised s := by
  have hport : modifyPort p f (modifyPort p (fun _ => q) s) = modifyPort p (fun _ => f q) s := modifyPort_modifyPort ..
  cases raised
  · exact hport
  · exact (setInterrupt_modifyPort ..).symm.trans (congrArg _ hport)

theorem raiseChange_portOutcome (p : PortNo) (b : ChangeBit) (q : Port) (raised : Bool) (s : State) :
    raiseChange p b (portOutcome p q raised s) = portOutcome p (q.withChange b) true s := by
  rw [raiseChange, modifyPort_portOutcome]
  cases raised
  · rfl
  · exact setInterrupt_idem _ _

/-! ### The commands of a port write, each where its bit `x` is written (R280, R281) -/

section
variable (x : Bool) (p : PortNo) (q : Port) (raised : Bool) (s : State)

theorem whenSet_clearPortEnable :
    whenSet x (clearPortEnable p) (portOutcome p q raised s) =
      portOutcome p { q with pes := q.pes && !x, pss := q.pss && !x } raised s := by
  cases x
  · simp [whenSet_false]
  · simp [whenSet_true, clearPortEnable, modifyPort_portOutcome]

theorem whenSet_setPortEnable :
    whenSet x (setPortEnable p) (portOutcome p q raised s) =
      portOutcome p { q with pes := q.pes || (x && q.ccs), csc := q.csc || (x && !q.ccs) }
        (raised || (x && !q.ccs)) s := by
  cases x
  · simp [whenSet_false]
  · cases hccs : q.ccs <;>
      simp [whenSet_true, setPortEnable, hccs, modifyPort_portOutcome, raiseChange_portOutcome, Port.withChange]

theorem whenSet_setPortSuspend :
    whenSet x (setPortSuspend p) (portOutcome p q raised s) =
      portOutcome p { q with pss := q.pss || (x && q.ccs && q.pes), csc := q.csc || (x && !q.ccs) }
        (raised || (x && !q.ccs)) s := by
  cases x
  · simp [whenSet_false]
  · cases hccs : q.ccs
    · simp [whenSet_true, setPortSuspend, hccs, raiseChange_portOutcome, Port.withChange]
    · cases hpes : q.pes
      · cases q
        simp_all [whenSet_true, setPortSuspend]
      · simp [whenSet_true, setPortSuspend, hccs, hpes, modifyPort_portOutcome]

theorem whenSet_clearSuspendStatus :
    whenSet x (clearSuspendStatus p) (portOutcome p q raised s) =
      portOutcome p { q with pss := q.pss && !x, pssc := q.pssc || (x && q.pss) } (raised || (x && q.pss)) s := by
  cases x
  · simp [whenSet_false]
  · cases hpss : q.pss
    · cases q
      simp_all [whenSet_true, clearSuspendStatus]
    · simp [whenSet_true, clearSuspendStatus, hpss, modifyPort_portOutcome, raiseChange_portOutcome, Port.withChange]

theorem whenSet_setPortReset :
    whenSet x (setPortReset p) (portOutcome p q raised s) =
      portOutcome p { q with
          prs := q.prs || (x && q.ccs)
          csc := q.csc || (x && !q.ccs)
          resetDue := if x && q.ccs && !q.prs then s.now + s.params.portResetTicks else q.resetDue }
        (raised || (x && !q.ccs)) s := by
  cases x
  · simp [whenSet_false]
  · cases hccs : q.ccs
    · simp [whenSet_true, setPortReset, hccs, raiseChange_portOutcome, Port.withChange]
    · cases hprs : q.prs
      · simp [whenSet_true, setPortReset, hccs, hprs, modifyPort_portOutcome]
      · cases q
        simp_all [whenSet_true, setPortReset]

end

/-- The five commands in ascending bit order give the closed form of R280 on a powered port. -/
theorem portCommands_portOutcome (p : PortNo) (w : Word) (q : Port) (s : State) (hpps : q.pps = true) :
    portCommands p w (portOutcome p (q.clearChanges w) false s) =
      portOutcome p (portWriteCommands w (s.now + s.params.portResetTicks) q) (portWriteRaises w q) s := by
  simp only [portCommands, whenSet_clearPortEnable, whenSet_setPortEnable, whenSet_setPortSuspend,
    whenSet_clearSuspendStatus, whenSet_setPortReset]
  congr 1
  · simp only [Port.clearChanges, portWriteCommands, suspendSeen, hpps, Port.mk.injEq]
    grind
  · simp only [Port.clearChanges, portWriteRaises, suspendSeen, hpps]
    grind

/-- Without power the change bits are cleared and no command runs (R280). -/
theorem clearChanges_unpowered (v : Word) (due : Nat) {q : Port} (hpps : q.pps = false) :
    q.clearChanges v = portWriteCommands v due q := by
  simp [Port.clearChanges, portWriteCommands, hpps]

theorem clearChanges_masked (v : Word) : Port.clearChanges (v &&& maskPortStatus) = Port.clearChanges v := by
  funext q
  simp (disch := decide) only [Port.clearChanges, getLsbD_masked]

/-- The write mask lets every command and every change bit through. -/
theorem portWrite_eq_portWriteMasked (p : PortNo) (v : Word) (s : State) : portWrite p v s = portWriteMasked p v s := by
  simp (disch := decide) only [portWrite, portWriteMasked, portCommands, portPowerCommands, clearChanges_masked,
    getLsbD_masked]

/-- A port write in closed form (R280): the record after the commands and then the power commands, and whether a change
bit was raised. -/
theorem portWrite_eq (p : PortNo) (v : Word) (s : State) :
    portWrite p v s = portOutcome p
      (powerResult s.params.nps (v.getLsbD 9) (v.getLsbD 8)
        (portWriteCommands v (s.now + s.params.portResetTicks) (s.port p)))
      (portWriteRaises v (s.port p)) s := by
  have hcleared : modifyPort p (Port.clearChanges v) s = portOutcome p ((s.port p).clearChanges v) false s := by
    rw [← modifyPort_portOutcome, portOutcome_self]
  have hcommands : (if ((s.port p).clearChanges v).pps then
        portCommands p v (portOutcome p ((s.port p).clearChanges v) false s)
      else portOutcome p ((s.port p).clearChanges v) false s)
      = portOutcome p (portWriteCommands v (s.now + s.params.portResetTicks) (s.port p))
        (portWriteRaises v (s.port p)) s := by
    change (if (s.port p).pps then _ else _) = _
    cases hpps : (s.port p).pps
    · rw [clearChanges_unpowered v (s.now + s.params.portResetTicks) hpps, portWriteRaises, hpps]
      rfl
    · exact portCommands_portOutcome p v (s.port p) s hpps
  rw [portWrite_eq_portWriteMasked, portWriteMasked, hcleared, portOutcome_port_same, hcommands, portPowerCommands,
    whenSet_portPowerOff, modifyPort_portOutcome, whenSet_portPowerOn, modifyPort_portOutcome, portOutcome_params,
    portOutcome_params, powerResult_off_on]

/-- The final line update after a port outcome: at most one push, however often the line was updated on the way. -/
theorem updateInterrupt_portOutcome (p : PortNo) (q : Port) (raised : Bool) (s : State) :
    updateInterrupt (portOutcome p q raised s) = updateInterrupt { modifyPort p (fun _ => q) s with
      hcInterruptStatus := if raised then s.hcInterruptStatus ||| 0x00000040#32 else s.hcInterruptStatus } := by
  cases raised
  · cases p <;> rfl
  · cases p <;> exact updateInterrupt_idem _

/-- Settles O49: the write is the port outcome in closed form with one final line update, which also settles a line that
was not settled before. -/
theorem portStatusWrite : Obligations.PortStatusWrite := by
  intro s v p hc _
  have hwrite := portWrite_eq p v s.clearOut
  have hline := (congrArg updateInterrupt hwrite).trans
    ((updateInterrupt_portOutcome ..).trans (updateInterrupt_eq_pushIfNew _))
  have hclear : PortFrame s s.clearOut := rfl
  have hframe := (hclear.trans (portWrite_portFrame p v s.clearOut)).trans (updateInterrupt_portFrame _)
  refine ⟨updateInterrupt (portWrite p v s.clearOut), ?_, ?_, fun q hq => ?_, ?_, ?_, ?_, hframe⟩
  · cases p <;> exact busWrite_of_constructed hc _
  · rw [updateInterrupt_port, hwrite, portOutcome_port_same, clearOut_port]
    rfl
  · rw [updateInterrupt_port, hwrite, portOutcome_port_other hq, clearOut_port]
  · rw [hline, clearOut_port]
    rfl
  · rw [hline]
    cases p <;> rfl
  · rw [hline]
    cases p <;> rfl

end Sys2Proof.Machine

/-! PROOFS of the family 45_state_machine.md: what can change HcControl, and with it HCFS. -/

namespace Sys2Proof.Machine

open Sys2Proof

/-! ### What a transaction does to HcControl -/

/-- HCFS is a field of HcControl, so what keeps the register keeps the controller state (R79). -/
theorem hcfs_eq_of_hcControl {s t : State} (h : t.hcControl = s.hcControl) : t.hcfs = s.hcfs := congrArg hcfsOf h

theorem resetProcedure_hcfs (s : State) : (resetProcedure s).hcfs = .reset :=
  (hcfsOf_eq_reset_iff 0#32).mpr (by decide)

/-- The agent of a change of HcControl: the guest writes the register, or it writes HCR; any other transaction keeps it. -/
inductive ControlChange (i : Instr) (s t : State) : Prop
  | written (v : Word) (hi : i = .wrHcControl v)
  | hcr (v : Word) (hi : i = .wrHcCommandStatus v) (hv : v.getLsbD 0 = true) (h : t.hcfs = .reset)
  | kept (h : t.hcControl = s.hcControl)

/-- Neither the fresh output list nor the final line update changes HcControl. -/
theorem ControlChange.of_clearOut {i : Instr} {s t : State} (h : ControlChange i s.clearOut t) :
    ControlChange i s (updateInterrupt t) := by
  have hline := updateInterrupt_hcControl t
  cases h with
  | written v hi => exact .written v hi
  | hcr v hi hv h => exact .hcr v hi hv ((hcfs_eq_of_hcControl hline).trans h)
  | kept h => exact .kept (hline.trans h)

theorem PortFrame.hcControl {s t : State} (h : PortFrame s t) : t.hcControl = s.hcControl := by
  unfold PortFrame at h
  exact (congrArg State.hcControl h :)

theorem PowerKept.hcControl {s t : State} (h : PowerKept s t) : t.hcControl = s.hcControl :=
  (congrArg State.hcControl h.rest :)

theorem WriteRule.controlChange {i : Instr} {f : State → State} (hf : WriteRule i f) (s : State) :
    ControlChange i s (f s) := by
  cases hf with
  | wrHcControl v => exact .written v rfl
  | wrHcCommandStatus v =>
    obtain ⟨hv, heq⟩ | ⟨-, heq⟩ := writeCommandStatus_cases v s
    · exact .hcr v rfl hv (by rw [heq, resetProcedure_hcfs])
    · exact .kept (by rw [heq])
  | wrHcRhStatus v => exact .kept (rhStatusCommands_powerKept _ s).hcControl
  | wrHcRhPortStatus1 v => exact .kept (portWrite_portFrame .one v s).hcControl
  | wrHcRhPortStatus2 v => exact .kept (portWrite_portFrame .two v s).hcControl
  | _ => exact .kept rfl

theorem stepLists_hcControl (lr : LR) (s : State) : (stepLists lr s).hcControl = s.hcControl := by
  cases hlists : s.listsEnabled
  · rw [stepLists_disabled hlists]
  · rw [stepLists_enabled hlists]

theorem stepDoneHead_hcControl (r : LR) (s : State) : (stepDoneHead r s).hcControl = s.hcControl := by
  cases hdone : r.done with
  | none => rw [stepDoneHead_none hdone]
  | some d => rw [stepDoneHead_some hdone]

theorem stepRearm_hcControl (s : State) : (stepRearm s).hcControl = s.hcControl := updateInterrupt_hcControl _

theorem frameFire_hcControl (lr : LR) (s : State) : (frameFire lr s).hcControl = s.hcControl := by
  rw [frameFire, stepRearm_hcControl, stepDoneHead_hcControl, stepLists_hcControl, fireStart_eq]

theorem Taken.controlChange {i : Instr} {s t : State} (h : Taken s i t) (hc : s.constructed = true) :
    ControlChange i s t := by
  cases h with
  | read | adv => exact .kept rfl
  | write hf => exact (hf.controlChange s.clearOut).of_clearOut
  | fire lr => exact .kept (frameFire_hcControl lr _)
  | attach lowSpeed => exact .of_clearOut (.kept (attachPort_portFrame _ lowSpeed _).hcControl)
  | detach => exact .of_clearOut (.kept (detachPort_portFrame _ _).hcControl)
  | prdone => exact .of_clearOut (.kept (portResetDone_portFrame _ _).hcControl)
  | construct hn => simp [hc] at hn

/-- Settles O35: a transaction that keeps HcControl keeps HCFS, and the two that do not are writes of the guest. -/
theorem stateChangesOnlyByTheGuest : Obligations.StateChangesOnlyByTheGuest := by
  intro i s t hc h hne
  cases (exec_next_taken h).controlChange hc with
  | written v hi => exact .inl ⟨v, hi⟩
  | hcr v hi hv hreset => exact .inr ⟨⟨v, hi, hv⟩, hreset⟩
  | kept hkept => exact absurd (hcfs_eq_of_hcControl hkept) hne

end Sys2Proof.Machine

/-! PROOFS of the family 46_frame_timer.md: what a fire leaves and hands out, runs of frames, and where the timer is armed
and disarmed. What a fire answers is said once (`exec_fire_iff`), in closed form over the list answer that counts. -/

namespace Sys2Proof.Machine

open Sys2Proof

/-! ### A fire in closed form -/

/-- HcFmNumber after a fire: FN moved on by one, the pad kept (R352). -/
def firedNumber (v : Word) : Word := (v &&& 0xFFFF0000#32) ||| ((v + 1#32) &&& 0x0000FFFF#32)

/-- HcInterruptStatus after a fire: SF always, SO, UE and WDH as the answer says (R353, R356, R357). -/
def firedStatus (r : LR) (v : Word) : Word :=
  v ||| 0x00000004#32 ||| (if r.overrun then 0x00000001#32 else 0#32) ||| (if r.error then 0x00000010#32 else 0#32)
    ||| (if r.done.isSome then 0x00000002#32 else 0#32)

/-- What a fire hands out before its line update: the frame number, the question if a list is enabled, the done head if
there is one, and the re-arming (R351). -/
def firedOutputs (r : LR) (s : State) : List Output :=
  [.memWrite (s.hcHCCA + 0x80#32) 4 ((s.hcFmNumber + 1#32) &&& 0x0000FFFF#32)]
    ++ (if s.listsEnabled then [.listProc (listContext { s with hcFmNumber := firedNumber s.hcFmNumber })] else [])
    ++ (r.done.elim [] fun d => [.memWrite (s.hcHCCA + 0x84#32) 4 (d &&& maskED)])
    ++ [.arm s.usbFrameTime]

/-- The state a fire leaves before its line update, `r` being the answer that counts. -/
def firedState (r : LR) (s : State) : State :=
  { s with
    hcFmNumber := firedNumber s.hcFmNumber
    mem := r.done.elim (numberedMem s) fun d => (numberedMem s).writeLE (s.hcHCCA + 0x84#32) 4 (d &&& maskED)
    hcInterruptStatus := firedStatus r s.hcInterruptStatus
    hcFmRemaining := s.hcFmInterval &&& 0x80003FFF#32
    fiPending := false
    sofTime := s.now
    hcCommandStatus := listCommandStatus r s
    hcPeriodCurrentED := updatedED s.hcPeriodCurrentED r.periodCur
    hcControlCurrentED := updatedED s.hcControlCurrentED r.controlCur
    hcBulkCurrentED := updatedED s.hcBulkCurrentED r.bulkCur
    hcDoneHead := updatedED s.hcDoneHead r.done
    timerArmed := true
    timerDeadline := s.now + s.usbFrameTime
    out := firedOutputs r s }

/-- Steps 1 to 3 of a fire, in the words of the closed form. -/
theorem fireStart_clearOut (s : State) :
    stepReload (stepSOF (stepFrameNumber { s.clearOut with timerArmed := false })) = { s with
      timerArmed := false
      hcFmNumber := firedNumber s.hcFmNumber
      mem := numberedMem s
      out := [.memWrite (s.hcHCCA + 0x80#32) 4 ((s.hcFmNumber + 1#32) &&& 0x0000FFFF#32)]
      hcInterruptStatus := s.hcInterruptStatus ||| 0x00000004#32
      hcFmRemaining := s.hcFmInterval &&& 0x80003FFF#32
      fiPending := false
      sofTime := s.now } := by
  have hnumber : (s.clearOut.fn + 1#16).setWidth 32 = (s.hcFmNumber + 1#32) &&& 0x0000FFFF#32 := nextFn_setWidth s
  rw [fireStart_eq, reloadValue_eq, writeFN, hnumber]
  rfl

/-- Step 4 in one form: without a list enabled the answer that counts is LR_NONE, which changes nothing (R356). -/
theorem stepLists_eq (lr : LR) (s : State) :
    stepLists lr s = { s with
      hcInterruptStatus := s.hcInterruptStatus ||| (if (effectiveAnswer lr s).overrun then 0x00000001#32 else 0#32)
        ||| (if (effectiveAnswer lr s).error then 0x00000010#32 else 0#32)
      hcCommandStatus := listCommandStatus (effectiveAnswer lr s) s
      hcPeriodCurrentED := updatedED s.hcPeriodCurrentED (effectiveAnswer lr s).periodCur
      hcControlCurrentED := updatedED s.hcControlCurrentED (effectiveAnswer lr s).controlCur
      hcBulkCurrentED := updatedED s.hcBulkCurrentED (effectiveAnswer lr s).bulkCur
      out := s.out ++ if s.listsEnabled then [.listProc (listContext s)] else [] } := by
  cases hlists : s.listsEnabled
  · rw [stepLists_disabled hlists, effectiveAnswer_disabled hlists]
    simp [LR.nothing, listCommandStatus, updatedED]
  · rw [stepLists_enabled hlists, effectiveAnswer_enabled hlists]
    rfl

/-- Step 5 in one form (R357). -/
theorem stepDoneHead_eq (r : LR) (s : State) :
    stepDoneHead r s = { s with
      hcDoneHead := updatedED s.hcDoneHead r.done
      mem := r.done.elim s.mem fun d => s.mem.writeLE (s.hcHCCA + 0x84#32) 4 (d &&& maskED)
      out := s.out ++ r.done.elim [] fun d => [.memWrite (s.hcHCCA + 0x84#32) 4 (d &&& maskED)]
      hcInterruptStatus := s.hcInterruptStatus ||| if r.done.isSome then 0x00000002#32 else 0#32 } := by
  cases hdone : r.done with
  | none =>
    rw [stepDoneHead_none hdone]
    simp [updatedED]
  | some d =>
    rw [stepDoneHead_some hdone]
    rfl

theorem frameFire_clearOut (lr : LR) (s : State) :
    frameFire lr s.clearOut = updateInterrupt (firedState (effectiveAnswer lr s) s) := by
  rw [frameFire, fireStart_clearOut, stepLists_eq, stepDoneHead_eq]
  rfl

/-- What a fire answers, and when (R350, R351). -/
theorem exec_fire_iff {lr : LR} {s t : State} :
    exec (.fire lr) s = .next t ↔
      s.constructed = true ∧ s.timerArmed = true ∧ s.timerDeadline ≤ s.now
        ∧ t = updateInterrupt (firedState (effectiveAnswer lr s) s) := by
  rw [← frameFire_clearOut]
  constructor
  · intro h
    obtain ⟨hc, henabled, ht⟩ := execFire_next h
    obtain ⟨harmed, hdue⟩ := Bool.and_eq_true_iff.mp henabled
    exact ⟨hc, harmed, of_decide_eq_true hdue, ht⟩
  · rintro ⟨hc, harmed, hdue, rfl⟩
    have henabled : s.fireEnabled = true := by simp [State.fireEnabled, harmed, hdue]
    exact (live_of_constructed hc _).trans (if_pos henabled)

/-! ### The registers a fire changes, field by field -/

theorem firedNumber_fn (v : Word) : (firedNumber v).extractLsb' 0 16 = v.extractLsb' 0 16 + 1#16 := by
  have hpad : (0xFFFF0000#32).extractLsb' 0 16 = 0#16 := by decide
  have hcount : (0x0000FFFF#32).extractLsb' 0 16 = BitVec.allOnes 16 := by decide
  have hlow (x : Word) : x.extractLsb' 0 16 = x.setWidth 16 := (BitVec.setWidth_eq_extractLsb' (by decide)).symm
  rw [firedNumber, BitVec.extractLsb'_or, BitVec.extractLsb'_and, BitVec.extractLsb'_and, hpad, hcount,
    BitVec.and_zero, BitVec.zero_or, BitVec.and_allOnes, hlow, hlow, BitVec.setWidth_add _ _ (by decide)]
  rfl

theorem firedStatus_sf (r : LR) (v : Word) : (firedStatus r v).getLsbD 2 = true := by
  simp [firedStatus]

theorem writeSOC_getLsbD (v : Word) (soc : BitVec 2) {k : Nat} (hk : k < 32) :
    (writeSOC v soc).getLsbD k = if 16 ≤ k ∧ k < 18 then soc.getLsbD (k - 16) else v.getLsbD k := by
  have hmask : (~~~0x00030000#32).getLsbD k = !decide (16 ≤ k ∧ k < 18) := by
    revert k
    decide
  have hsoc : ((soc.setWidth 32) <<< 16).getLsbD k = (decide (16 ≤ k) && soc.getLsbD (k - 16)) := by
    rw [BitVec.getLsbD_shiftLeft, BitVec.getLsbD_setWidth]
    grind
  have hhigh : 18 ≤ k → soc.getLsbD (k - 16) = false := fun h => BitVec.getLsbD_of_ge _ _ (by omega)
  rw [writeSOC, BitVec.getLsbD_or, BitVec.getLsbD_and, hmask, hsoc]
  grind

/-- HcCommandStatus after the list answer, bit by bit: SOC, CLF and BLF change and nothing else does (R356). -/
theorem listCommandStatus_getLsbD (lr : LR) (s : State) {k : Nat} (hk : k < 32) :
    (listCommandStatus lr s).getLsbD k =
      if k = 1 then s.hcCommandStatus.getLsbD 1 && !lr.clearCLF
      else if k = 2 then s.hcCommandStatus.getLsbD 2 && !lr.clearBLF
      else if 16 ≤ k ∧ k < 18 then (s.soc + if lr.overrun then 1#2 else 0#2).getLsbD (k - 16)
      else s.hcCommandStatus.getLsbD k := by
  have hcounted : (if lr.overrun then writeSOC s.hcCommandStatus (s.soc + 1#2) else s.hcCommandStatus).getLsbD k =
      if 16 ≤ k ∧ k < 18 then (s.soc + if lr.overrun then 1#2 else 0#2).getLsbD (k - 16)
      else s.hcCommandStatus.getLsbD k := by
    cases lr.overrun
    · have hsoc (h : 16 ≤ k ∧ k < 18) : (s.soc + 0#2).getLsbD (k - 16) = s.hcCommandStatus.getLsbD k := by
        rw [BitVec.add_zero, State.soc, BitVec.getLsbD_extractLsb', Nat.add_sub_cancel' h.1,
          decide_eq_true (by omega), Bool.true_and]
      exact (ite_eq_right_iff.mpr hsoc).symm
    · exact writeSOC_getLsbD _ _ hk
  change (writeBitIf lr.clearBLF 2 false (writeBitIf lr.clearCLF 1 false _)).getLsbD k = _
  rw [writeBitIf_getLsbD (by decide), writeBitIf_getLsbD (by decide), hcounted]
  grind

theorem listCommandStatus_soc (lr : LR) (s : State) :
    (listCommandStatus lr s).extractLsb' 16 2 = s.soc + if lr.overrun then 1#2 else 0#2 := by
  refine BitVec.eq_of_getLsbD_eq fun i hi => ?_
  have hbit := listCommandStatus_getLsbD lr s (k := 16 + i) (by omega)
  have hfield : 16 ≤ 16 + i ∧ 16 + i < 18 := by omega
  rw [if_neg (by omega), if_neg (by omega), if_pos hfield, Nat.add_sub_cancel_left] at hbit
  rw [BitVec.getLsbD_extractLsb', decide_eq_true hi, Bool.true_and, hbit]

theorem listCommandStatus_other (lr : LR) (s : State) :
    listCommandStatus lr s &&& ~~~0x00030006#32 = s.hcCommandStatus &&& ~~~0x00030006#32 := by
  refine BitVec.eq_of_getLsbD_eq fun k hk => ?_
  have hmask : (~~~0x00030006#32).getLsbD k = !decide (k = 1 ∨ k = 2 ∨ 16 ≤ k ∧ k < 18) := by
    revert k
    decide
  rw [BitVec.getLsbD_and, BitVec.getLsbD_and, hmask, listCommandStatus_getLsbD lr s hk]
  grind

/-! ### One fire -/

/-- Settles O38: the fire is taken and leaves the closed form, whose command register is read bit by bit. -/
theorem fireWithListsEnabled : Obligations.FireWithListsEnabled := by
  intro s lr hc harmed hdue hlists
  have hcounts : effectiveAnswer lr s = lr := effectiveAnswer_enabled ((listsEnabled_iff s).mpr hlists)
  refine ⟨updateInterrupt (firedState lr s), exec_fire_iff.mpr ⟨hc, harmed, hdue, by rw [hcounts]⟩, ?_⟩
  have hpointer (old : Word) (new : Option Word) :
      updatedED old new = (match new with | some a => a &&& 0xFFFFFFF0#32 | none => old) := by cases new <;> rfl
  rw [updateInterrupt_eq_pushIfNew]
  refine ⟨rfl, ⟨?_, ?_, ?_, ?_⟩, rfl, hpointer _ _, hpointer _ _, hpointer _ _, hpointer _ _, rfl, ?_⟩
  · exact listCommandStatus_soc lr s
  · exact listCommandStatus_getLsbD lr s (by decide)
  · exact listCommandStatus_getLsbD lr s (by decide)
  · exact listCommandStatus_other lr s
  · rw [firedState, ← harmed]

/-- Settles O40: the outputs of the closed form, in the two cases of a list enabled or none, then the push of the line
update. -/
theorem fireOutputsInOrder : Obligations.FireOutputsInOrder := by
  intro s t lr h
  obtain ⟨-, -, -, rfl⟩ := exec_fire_iff.mp h
  rw [updateInterrupt_eq_pushIfNew]
  cases hlists : s.listsEnabled
  · have hbits : s.hcControl &&& 0x0000003C#32 = 0#32 := by simpa [hlists] using listsEnabled_iff s
    rw [effectiveAnswer_disabled hlists, if_pos hbits, firedState, firedOutputs, hlists]
    rfl
  · have hbits : s.hcControl &&& 0x0000003C#32 ≠ 0#32 := (listsEnabled_iff s).mp hlists
    rw [effectiveAnswer_enabled hlists, if_neg hbits, firedState, firedOutputs, hlists]
    cases lr.done <;> rfl

/-- Settles O37: with LR_NONE for the answer the closed form changes none of the registers the lists reach. -/
theorem fireWithListsDisabled : Obligations.FireWithListsDisabled := by
  intro s lr hc harmed hdue hbits
  have hlists : s.listsEnabled = false := by simpa [hbits] using listsEnabled_iff s
  refine exec_fire_iff.mpr ⟨hc, harmed, hdue, ?_⟩
  have hstatus : firedStatus LR.nothing s.hcInterruptStatus = s.hcInterruptStatus ||| 0x00000004#32 := by
    simp [firedStatus, LR.nothing]
  have hout : firedOutputs LR.nothing s = [.memWrite (s.hcHCCA + 0x80#32) 4 ((s.hcFmNumber + 1#32) &&& 0x0000FFFF#32),
      .arm s.usbFrameTime] := by simp [firedOutputs, hlists, LR.nothing]
  rw [effectiveAnswer_disabled hlists, updateInterrupt_eq_pushIfNew, firedState, hstatus, hout, ← harmed]
  rfl

/-- Settles O43: the write keeps clear of the timer and the countdown, and the fire arms for the frame time the write
cached and reloads from the value it stored. -/
theorem frameIntervalChangeIsDeferred : Obligations.FrameIntervalChangeIsDeferred := by
  intro s a b v lr n hwrite hfire
  obtain ⟨-, ha⟩ := busWrite_next hwrite
  rw [writeFmInterval_eq] at ha
  obtain ⟨-, -, -, rfl⟩ := exec_fire_iff.mp hfire
  have htime : a.usbFrameTime = frameTime s.params (frameField v) := by
    rw [ha]
    exact updateInterrupt_usbFrameTime _
  have hinterval : a.hcFmInterval = v &&& maskFmInterval := by rw [ha, updateInterrupt_hcFmInterval]
  refine ⟨?_, ?_, ?_⟩
  · rw [ha]
    exact ⟨updateInterrupt_timerArmed _, updateInterrupt_timerDeadline _, updateInterrupt_hcFmRemaining _⟩
  · calc _ = n + a.usbFrameTime := updateInterrupt_timerDeadline _
      _ = _ := by rw [htime, frameTime, frameLen, frameField]
  · calc _ = a.hcFmInterval &&& 0x80003FFF#32 := updateInterrupt_hcFmRemaining _
      _ = v &&& (maskFmInterval &&& 0x80003FFF#32) := by rw [hinterval, BitVec.and_assoc]

/-! ### Runs of frames -/

/-- The state after one frame: `d` ticks, then a fire with the answer `lr`. -/
def frameAfter (d : Nat) (lr : LR) (s : State) : State :=
  updateInterrupt (firedState (effectiveAnswer lr s) { s with now := s.now + d })

/-- When a run of frames goes through its first frame, and where it goes on. -/
theorem frames_cons_iff {d : Nat} {lr : LR} {rest : List (Nat × LR)} {s t : State} :
    frames ((d, lr) :: rest) s = some t ↔
      d ≠ 0 ∧ s.constructed = true ∧ s.timerArmed = true ∧ s.timerDeadline ≤ s.now + d
        ∧ frames rest (frameAfter d lr s) = some t := by
  constructor
  · intro h
    rw [frames] at h
    split at h
    · next a ha =>
      split at h
      · next b hb =>
        obtain ⟨hd, hc, rfl⟩ := execAdv_next ha
        obtain ⟨-, harmed, hdue, rfl⟩ := exec_fire_iff.mp hb
        exact ⟨hd, hc, harmed, hdue, h⟩
      · cases h
      · cases h
    · cases h
    · cases h
  · rintro ⟨hd, hc, harmed, hdue, h⟩
    have hadv : exec (.adv d) s = .next { s.clearOut with now := s.now + d } :=
      (if_neg hd).trans (live_of_constructed hc _)
    have hfire : exec (.fire lr) { s.clearOut with now := s.now + d } = .next (frameAfter d lr s) :=
      exec_fire_iff.mpr ⟨hc, harmed, hdue, rfl⟩
    rw [frames, hadv]
    dsimp only
    rw [hfire]
    exact h

/-- Settles O45, by induction on the frames: each adds one to FN and keeps HcFmInterval and HcControl, and the last one
reloads the countdown and sets SF. -/
theorem framesAreCounted : Obligations.FramesAreCounted := by
  intro l
  induction l with
  | nil =>
    intro s t h
    obtain rfl := Option.some.inj h
    simp
  | cons f rest ih =>
    obtain ⟨d, lr⟩ := f
    intro s t h
    obtain ⟨-, -, -, -, hrest⟩ := frames_cons_iff.mp h
    obtain ⟨hfn, hinterval, hstate, hlast⟩ := ih _ _ hrest
    have hnumber : (frameAfter d lr s).hcFmNumber = firedNumber s.hcFmNumber := updateInterrupt_hcFmNumber _
    have hkept : (frameAfter d lr s).hcFmInterval = s.hcFmInterval := updateInterrupt_hcFmInterval _
    refine ⟨?_, hinterval.trans hkept, hstate.trans (hcfs_eq_of_hcControl (updateInterrupt_hcControl _)), fun _ => ?_⟩
    · rw [hfn, hnumber, firedNumber_fn, List.length_cons, BitVec.ofNat_add, BitVec.add_assoc, BitVec.add_comm 1#16]
    · cases rest with
      | nil =>
        obtain rfl := Option.some.inj hrest
        refine ⟨updateInterrupt_hcFmRemaining _, ?_⟩
        rw [frameAfter, updateInterrupt_hcInterruptStatus]
        exact firedStatus_sf _ _
      | cons g rest =>
        rw [← hkept]
        exact hlast (List.cons_ne_nil g rest)

/-- Settles O46, by induction on the frames: each leaves the timer armed one unchanged frame time ahead, which the ticks
of the next frame reach. -/
theorem frameClockNeverStalls : Obligations.FrameClockNeverStalls := by
  intro l
  induction l with
  | nil =>
    intro s _ harmed _ _ _
    exact ⟨s, rfl, harmed⟩
  | cons f rest ih =>
    obtain ⟨d, lr⟩ := f
    intro s hc harmed hticks hfirst hlater
    have hdue : s.timerDeadline ≤ s.now + d := hfirst (d, lr) rfl
    have hd : 1 ≤ d := hticks (d, lr) List.mem_cons_self
    have hnow : (frameAfter d lr s).now = s.now + d := updateInterrupt_now _
    have htime : (frameAfter d lr s).usbFrameTime = s.usbFrameTime := updateInterrupt_usbFrameTime _
    have hdeadline : (frameAfter d lr s).timerDeadline = s.now + d + s.usbFrameTime := updateInterrupt_timerDeadline _
    obtain ⟨t, hrest, ht⟩ := ih (frameAfter d lr s)
      ((updateInterrupt_constructed _).trans hc)
      (updateInterrupt_timerArmed _)
      (fun g hg => hticks g (List.mem_cons_of_mem _ hg))
      (fun g hg => by
        have := hlater g (List.mem_of_mem_head? hg)
        omega)
      (fun g hg => by
        have := hlater g (List.mem_of_mem_tail hg)
        omega)
    exact ⟨t, frames_cons_iff.mpr ⟨by omega, hc, harmed, hdue, hrest⟩, ht⟩

/-! ### Where the timer is armed and disarmed -/

/-- Is the output one of the two timer commands (R359)? -/
def Output.isTimer : Output → Bool
  | .arm _ => true
  | .disarm => true
  | _ => false

/-- The timer commands among the outputs, in order. -/
def State.timerCommands (s : State) : List Output := s.out.filter Output.isTimer

theorem arm_mem_timerCommands {s : State} {d : Nat} : .arm d ∈ s.timerCommands ↔ .arm d ∈ s.out := by
  simp [State.timerCommands, Output.isTimer]

theorem disarm_mem_timerCommands {s : State} : .disarm ∈ s.timerCommands ↔ .disarm ∈ s.out := by
  simp [State.timerCommands, Output.isTimer]

/-- The push of a level is no timer command. -/
@[simp] theorem updateInterrupt_timerCommands (s : State) : (updateInterrupt s).timerCommands = s.timerCommands := by
  have hpush (line : Nat) (old new : Bool) : (pushIfNew line old new).filter Output.isTimer = [] := by
    cases old <;> cases new <;> rfl
  rw [updateInterrupt_eq_pushIfNew, State.timerCommands, List.filter_append, hpush, List.append_nil, State.timerCommands]

@[simp] theorem clearOut_timerCommands (s : State) : s.clearOut.timerCommands = [] := rfl

@[simp] theorem modifyPort_timerCommands (p : PortNo) (f : Port → Port) (s : State) :
    (modifyPort p f s).timerCommands = s.timerCommands := by
  rw [State.timerCommands, modifyPort_out, State.timerCommands]

@[simp] theorem raiseChange_timerCommands (p : PortNo) (b : ChangeBit) (s : State) :
    (raiseChange p b s).timerCommands = s.timerCommands :=
  (updateInterrupt_timerCommands _).trans (modifyPort_timerCommands p _ s)

@[simp] theorem whenSet_raiseChange_timerCommands (x : Bool) (p : PortNo) (b : ChangeBit) (s : State) :
    (whenSet x (raiseChange p b) s).timerCommands = s.timerCommands := by
  cases x
  · rfl
  · exact raiseChange_timerCommands p b s

theorem portWrite_timerCommands (p : PortNo) (v : Word) (s : State) :
    (portWrite p v s).timerCommands = s.timerCommands := by
  rw [portWrite_eq, portOutcome]
  cases portWriteRaises v (s.port p)
  · exact modifyPort_timerCommands p _ s
  · exact (updateInterrupt_timerCommands _).trans (modifyPort_timerCommands p _ s)

theorem attachPort_timerCommands (p : PortNo) (lowSpeed : Bool) (s : State) :
    (attachPort p lowSpeed s).timerCommands = s.timerCommands := by
  unfold attachPort
  split <;> simp

theorem detachPort_timerCommands (p : PortNo) (s : State) : (detachPort p s).timerCommands = s.timerCommands := by
  unfold detachPort
  split <;> simp

theorem portResetDone_timerCommands (p : PortNo) (s : State) : (portResetDone p s).timerCommands = s.timerCommands := by
  simp [portResetDone]

theorem leaveOperational_timerCommands (s : State) :
    (leaveOperational s).timerCommands = s.timerCommands ++ [.disarm] := by
  simp [leaveOperational_eq, State.timerCommands, Output.isTimer]

theorem enterOperational_timerCommands (s : State) :
    (enterOperational s).timerCommands = s.timerCommands ++ [.arm s.usbFrameTime] := by
  simp [enterOperational_eq, State.timerCommands, Output.isTimer]

theorem resetProcedure_timerCommands (s : State) :
    (resetProcedure s).timerCommands = s.timerCommands ++ [.disarm] := by
  simp [resetProcedure_eq, State.timerCommands, Output.isTimer]

/-- What a transaction asks of the timer, and which transactions ask it (R359). -/
inductive TimerChange (i : Instr) (s t : State) : Prop
  | nothing (h : t.timerCommands = [])
  | fired (lr : LR) (d : Nat) (hi : i = .fire lr) (h : t.timerCommands = [.arm d])
  | entered (v : Word) (d : Nat) (hi : i = .wrHcControl v) (hold : s.hcfs ≠ .operational) (hnew : t.hcfs = .operational)
      (h : t.timerCommands = [.arm d])
  | left (v : Word) (hi : i = .wrHcControl v) (hold : s.hcfs = .operational) (hnew : t.hcfs ≠ .operational)
      (h : t.timerCommands = [.disarm])
  | reset (hreset : resets i s = true) (h : ∀ o ∈ t.timerCommands, o = .disarm)

/-- Neither the fresh output list nor the final line update asks anything of the timer. -/
theorem TimerChange.of_clearOut {i : Instr} {s t : State} (h : TimerChange i s.clearOut t) :
    TimerChange i s (updateInterrupt t) := by
  have hcommands := updateInterrupt_timerCommands t
  have hstate : (updateInterrupt t).hcfs = t.hcfs := hcfs_eq_of_hcControl (updateInterrupt_hcControl t)
  cases h with
  | nothing h => exact .nothing (hcommands.trans h)
  | fired lr d hi h => exact .fired lr d hi (hcommands.trans h)
  | entered v d hi hold hnew h => exact .entered v d hi hold (hstate.trans hnew) (hcommands.trans h)
  | left v hi hold hnew h => exact .left v hi hold (hstate ▸ hnew) (hcommands.trans h)
  | reset hreset h => exact .reset (resets_clearOut i s ▸ hreset) (hcommands ▸ h)

/-- The transitions of HcControl, by their exit and entry actions (R325); `u` is the state with the value stored. -/
theorem changeState_timerChange {v : Word} {s u : State} (hu : u.timerCommands = []) (hstate : u.hcfs = hcfsOf v) :
    TimerChange (.wrHcControl v) s (changeState s.hcfs (hcfsOf v) u) := by
  obtain ⟨-, heq⟩ | ⟨hne, hreset, heq⟩ | ⟨hne, hop, heq⟩ | ⟨hne, -, heq⟩ :=
    changeState_cases s.hcfs (hcfsOf v) u
  all_goals rw [heq]
  · exact .nothing hu
  · have hresets : resets (.wrHcControl v) s = true := by
      have hbits := (hcfsOf_eq_reset_iff v).mp hreset
      simpa [resets, hbits, hreset] using hne
    refine .reset hresets ?_
    rw [resetProcedure_timerCommands]
    split
    · simp [leaveOperational_timerCommands, hu]
    · simp [hu]
  · have harm : (enterOperational u).timerCommands = [.arm u.usbFrameTime] := by
      rw [enterOperational_timerCommands, hu, List.nil_append]
    exact .entered v _ rfl (hop ▸ hne) (hstate.trans hop) harm
  · split
    · next hold =>
      have hdisarm : (leaveOperational u).timerCommands = [.disarm] := by
        rw [leaveOperational_timerCommands, hu, List.nil_append]
      have hnew : u.hcfs ≠ .operational := by
        rw [hstate, ← hold]
        exact hne.symm
      exact .left v rfl hold hnew hdisarm
    · exact .nothing hu

theorem PowerKept.timerCommands {s t : State} (h : PowerKept s t) : t.timerCommands = s.timerCommands :=
  (congrArg State.timerCommands h.rest :)

theorem WriteRule.timerChange {i : Instr} {f : State → State} (hf : WriteRule i f) {s : State}
    (hs : s.timerCommands = []) : TimerChange i s (f s) := by
  cases hf with
  | wrHcControl v =>
    rw [writeControl_eq]
    exact changeState_timerChange hs (hcfsOf_masked v)
  | wrHcCommandStatus v =>
    obtain ⟨hreset, heq⟩ | ⟨-, heq⟩ := writeCommandStatus_cases v s
    · refine .reset hreset ?_
      rw [heq, resetProcedure_timerCommands, hs]
      simp
    · rw [heq]
      exact .nothing hs
  | wrHcRhStatus v => exact .nothing ((rhStatusCommands_powerKept _ s).timerCommands.trans hs)
  | wrHcRhPortStatus1 v => exact .nothing ((portWrite_timerCommands .one v s).trans hs)
  | wrHcRhPortStatus2 v => exact .nothing ((portWrite_timerCommands .two v s).trans hs)
  | _ => exact .nothing hs

/-- A fire hands out memory writes and the question besides its one Arm. -/
theorem firedState_timerCommands (r : LR) (s : State) : (firedState r s).timerCommands = [.arm s.usbFrameTime] := by
  change (firedOutputs r s).filter Output.isTimer = _
  cases hdone : r.done <;> cases hlists : s.listsEnabled <;> simp [firedOutputs, hdone, hlists, Output.isTimer]

theorem Taken.timerChange {i : Instr} {s t : State} (h : Taken s i t) (hc : s.constructed = true) :
    TimerChange i s t := by
  cases h with
  | read | adv => exact .nothing rfl
  | write hf => exact (hf.timerChange (clearOut_timerCommands s)).of_clearOut
  | fire lr =>
    rw [frameFire_clearOut]
    exact .fired lr _ rfl ((updateInterrupt_timerCommands _).trans (firedState_timerCommands _ s))
  | attach lowSpeed => exact .of_clearOut (.nothing (attachPort_timerCommands _ lowSpeed _))
  | detach => exact .of_clearOut (.nothing (detachPort_timerCommands _ _))
  | prdone => exact .of_clearOut (.nothing (portResetDone_timerCommands _ _))
  | construct hn => simp [hc] at hn

/-- Settles O44: in each case of `TimerChange` the commands are of one kind only, and the case names their source. -/
theorem armingAndDisarming : Obligations.ArmingAndDisarming := by
  intro i s t hc h
  simp only [← arm_mem_timerCommands, ← disarm_mem_timerCommands]
  cases (exec_next_taken h).timerChange hc with
  | nothing hcommands => simp [hcommands]
  | fired lr d hi hcommands => exact ⟨fun _ => .inl ⟨lr, hi⟩, by simp [hcommands]⟩
  | entered v d hi hold hnew hcommands => exact ⟨fun _ => .inr ⟨v, hi, hold, hnew⟩, by simp [hcommands]⟩
  | left v hi hold hnew hcommands => exact ⟨by simp [hcommands], fun _ => .inl ⟨v, hi, hold, hnew⟩⟩
  | reset hreset hdisarm => exact ⟨fun ⟨d, harm⟩ => absurd (hdisarm _ harm) nofun, fun _ => .inr hreset⟩

end Sys2Proof.Machine

/-! PROOFS of the family 47_port_events.md: the port events in closed form, the events that are not enabled, and the
advance of time. -/

namespace Sys2Proof.Machine

open Sys2Proof

/-! ### A port event in closed form -/

theorem withPort_of_operand {n : Nat} {p : PortNo} {s : State} (hn : PortNo.ofOperand n = some p)
    (hc : s.constructed = true) (k : PortNo → Answer) : withPort n s k = k p := by
  rw [withPort, hn]
  exact live_of_constructed hc _

/-- An event that does nothing is taken all the same: the fresh output list and the settled line are the whole step. -/
theorem updateInterrupt_clearOut {s : State} (hline : s.lineSettled) :
    updateInterrupt s.clearOut = { s with out := [] } := updateInterrupt_settled hline

theorem modifyPort_eq_portOutcome (p : PortNo) (f : Port → Port) (s : State) :
    modifyPort p f s = portOutcome p (f (s.port p)) false s := by
  rw [← modifyPort_portOutcome, portOutcome_self]

/-- A second change bit raised in one event sets no more than its bit: RHSC is set and the line updated already. -/
theorem whenSet_raiseChange_portOutcome (x : Bool) (p : PortNo) (b : ChangeBit) (q : Port) (s : State) :
    whenSet x (raiseChange p b) (portOutcome p q true s) = portOutcome p (if x then q.withChange b else q) true s := by
  cases x
  · rfl
  · exact raiseChange_portOutcome p b q true s

theorem attachPort_occupied {p : PortNo} {s : State} (hccs : (s.port p).ccs = true) (lowSpeed : Bool) :
    attachPort p lowSpeed s = s := if_pos hccs

theorem attachPort_empty {p : PortNo} {s : State} (hccs : (s.port p).ccs = false) (lowSpeed : Bool) :
    attachPort p lowSpeed s =
      portOutcome p { s.port p with ccs := true, lsda := lowSpeed, csc := true } true s := by
  rw [attachPort, if_neg (ne_true_of_eq_false hccs), modifyPort_eq_portOutcome, raiseChange_portOutcome]
  rfl

theorem detachPort_empty {p : PortNo} {s : State} (hccs : (s.port p).ccs = false) : detachPort p s = s :=
  if_neg (ne_true_of_eq_false hccs)

theorem detachPort_occupied {p : PortNo} {s : State} (hccs : (s.port p).ccs = true) :
    detachPort p s =
      portOutcome p { s.port p with
        ccs := false, lsda := false, pes := false, pss := false, prs := false, csc := true
        pesc := (s.port p).pesc || (s.port p).pes } true s := by
  rw [detachPort, if_pos hccs, modifyPort_eq_portOutcome, raiseChange_portOutcome, whenSet_raiseChange_portOutcome]
  cases hpes : (s.port p).pes <;> simp [Port.detached, Port.withChange]

theorem portResetDone_eq (p : PortNo) (s : State) :
    portResetDone p s =
      portOutcome p { s.port p with
        prs := false, pes := true, pss := false, prsc := true, csc := (s.port p).csc || (s.port p).ccs } true s := by
  rw [portResetDone, modifyPort_eq_portOutcome, raiseChange_portOutcome, whenSet_raiseChange_portOutcome]
  cases hccs : (s.port p).ccs <;> simp [Port.resetDone, Port.withChange]

/-- What a step shows that leaves the record `q` at port `p` and raises a change bit (R284): the other port as it was,
RHSC set, the line brought up to date with at most one push, and nothing else changed. -/
theorem exec_raises {i : Instr} {p : PortNo} {q : Port} {s : State}
    (h : exec i s = .next (updateInterrupt (portOutcome p q true s.clearOut))) :
    ∃ t, exec i s = .next t
      ∧ t.port p = q
      ∧ (∀ r, r ≠ p → t.port r = s.port r)
      ∧ { t with port1 := s.port1, port2 := s.port2 } =
          { s with
            hcInterruptStatus := s.hcInterruptStatus ||| 0x00000040#32
            irqLevel := levelOf s.hcInterrupt (s.hcInterruptStatus ||| 0x00000040#32)
            out := pushIfNew s.params.irqNum s.irqLevel
              (levelOf s.hcInterrupt (s.hcInterruptStatus ||| 0x00000040#32)) } := by
  refine ⟨_, h, ?_, fun r hr => ?_, ?_⟩
  · rw [updateInterrupt_port, portOutcome_port_same]
  · rw [updateInterrupt_port, portOutcome_port_other hr, clearOut_port]
  · rw [updateInterrupt_portOutcome, updateInterrupt_eq_pushIfNew]
    cases p <;> rfl

/-- Settles O50: an attach of an empty port is one port outcome, and of an occupied one nothing. -/
theorem attachResult : Obligations.AttachResult := by
  intro s n p lowSpeed hc hline hport
  have hexec : exec (.attach n lowSpeed) s = .next (updateInterrupt (attachPort p lowSpeed s.clearOut)) :=
    withPort_of_operand (ofOperand_eq_some_iff.mpr hport) hc _
  rw [← clearOut_port s p]
  refine ⟨fun hccs => ?_, fun hccs => ?_⟩
  · rw [hexec, attachPort_occupied hccs, updateInterrupt_clearOut hline]
  · rw [attachPort_empty hccs] at hexec
    exact exec_raises hexec

/-- Settles O51: a detach raises CSC and, of an enabled port, PESC; both together are one port outcome. -/
theorem detachResult : Obligations.DetachResult := by
  intro s n p hc hline hport
  have hexec : exec (.detach n) s = .next (updateInterrupt (detachPort p s.clearOut)) :=
    withPort_of_operand (ofOperand_eq_some_iff.mpr hport) hc _
  rw [← clearOut_port s p]
  refine ⟨fun hccs => ?_, fun hccs => ?_⟩
  · rw [hexec, detachPort_empty hccs, updateInterrupt_clearOut hline]
  · rw [detachPort_occupied hccs] at hexec
    exact exec_raises hexec

/-! ### Events that are enabled, and events that are not -/

theorem portResetDoneEnabled_iff {s : State} {p : PortNo} :
    s.portResetDoneEnabled p = true ↔ (s.port p).prs = true ∧ (s.port p).resetDue ≤ s.now := by
  simp [State.portResetDoneEnabled]

theorem fireEnabled_iff {s : State} : s.fireEnabled = true ↔ s.timerArmed = true ∧ s.timerDeadline ≤ s.now := by
  simp [State.fireEnabled]

/-- What PRDONE of an existing port answers, enabled or not (R382, R384). -/
theorem exec_prdone_eq {s : State} {n : Nat} {p : PortNo} (hn : PortNo.ofOperand n = some p)
    (hc : s.constructed = true) :
    exec (.prdone n) s = if s.portResetDoneEnabled p then .next (updateInterrupt (portResetDone p s.clearOut))
      else .fault .portResetDoneNotEnabled := withPort_of_operand hn hc _

/-- Settles O52: the completion is enabled, and PRSC and CSC raised together are one port outcome. -/
theorem portResetDoneResult : Obligations.PortResetDoneResult := by
  intro s n p hc _ hport hprs hdue
  have hexec := exec_prdone_eq (ofOperand_eq_some_iff.mpr hport) hc
  rw [if_pos (portResetDoneEnabled_iff.mpr ⟨hprs, hdue⟩), portResetDone_eq] at hexec
  exact exec_raises hexec

/-- Settles O41: the enabling condition is all the two events ask once the block is constructed. -/
theorem notEnabledEventsAreStuck : Obligations.NotEnabledEventsAreStuck := by
  intro s hc
  refine ⟨fun lr hne => ?_, fun hne => ?_, fun hne => ?_⟩
  · exact (live_of_constructed hc _).trans (if_neg (mt fireEnabled_iff.mp hne))
  · exact (exec_prdone_eq (p := .one) rfl hc).trans (if_neg (mt (portResetDoneEnabled_iff (p := .one)).mp hne))
  · exact (exec_prdone_eq (p := .two) rfl hc).trans (if_neg (mt (portResetDoneEnabled_iff (p := .two)).mp hne))

/-- Settles O55: neither the timer nor the line is looked at. -/
theorem timeAdvance : Obligations.TimeAdvance := by
  intro s d hc hd
  exact (if_neg (by omega)).trans (live_of_constructed hc _)

end Sys2Proof.Machine

/-! PROOFS of the family 60_exceptions.md: the level, the discipline of the pushes, the line updates inside a step, what
changes the enables, and where a frame can fire. -/

namespace Sys2Proof.Machine

open Sys2Proof

/-! ### The level -/

theorem maskStatus_getLsbD {i : Nat} : maskStatus.getLsbD i = true ↔ i ≤ 6 ∨ i = 30 := by
  by_cases hi : i < 32
  · have hbits : ∀ j < 32, maskStatus.getLsbD j = decide (j ≤ 6 ∨ j = 30) := by decide
    rw [hbits i hi, decide_eq_true_iff]
  · have hclear : maskStatus.getLsbD i = false := BitVec.getLsbD_of_ge _ _ (by omega)
    simp only [hclear, Bool.false_eq_true, false_iff]
    omega

theorem ne_zero_iff_getLsbD (x : Word) : x ≠ 0#32 ↔ ∃ i, x.getLsbD i = true := by
  constructor
  · intro hx
    by_contra hclear
    push Not at hclear
    exact hx (BitVec.eq_of_getLsbD_eq fun i _ => by simpa using hclear i)
  · rintro ⟨i, hi⟩ rfl
    simp at hi

/-- R400 by single bits, over the two register values. -/
theorem levelOf_iff (enables status : Word) :
    levelOf enables status = true ↔
      enables.getLsbD 31 = true
        ∧ ∃ i : Nat, (i ≤ 6 ∨ i = 30) ∧ enables.getLsbD i = true ∧ status.getLsbD i = true := by
  have hbit (i : Nat) : (enables &&& maskStatus &&& status).getLsbD i = true ↔
      (i ≤ 6 ∨ i = 30) ∧ enables.getLsbD i = true ∧ status.getLsbD i = true := by
    rw [BitVec.getLsbD_and, BitVec.getLsbD_and, Bool.and_eq_true, Bool.and_eq_true, maskStatus_getLsbD]
    tauto
  change (enables.getLsbD 31 && (enables &&& maskStatus &&& status != 0#32)) = true ↔ _
  simp only [Bool.and_eq_true, bne_iff_ne, ne_zero_iff_getLsbD, hbit]

/-- Settles O22: the masked conjunction of R400 is not zero exactly where one of its bits is set. -/
theorem intLevelIsEnabledPending : Obligations.IntLevelIsEnabledPending := fun _ => levelOf_iff _ _

/-- Without MIE the line is low. -/
theorem levelOf_of_mie_clear {enables : Word} (h : enables.getLsbD 31 = false) (status : Word) :
    levelOf enables status = false := by
  rw [levelOf, h, Bool.false_and]

/-- A status bit gained can only raise the level. -/
theorem levelOf_or {enables status : Word} (h : levelOf enables status = true) (bits : Word) :
    levelOf enables (status ||| bits) = true := by
  obtain ⟨hmie, i, hi, henabled, hstatus⟩ := (levelOf_iff _ _).mp h
  exact (levelOf_iff _ _).mpr ⟨hmie, i, hi, henabled, by rw [BitVec.getLsbD_or, hstatus, Bool.true_or]⟩

/-- Settles O24: with an enabled bit pending the level is MIE alone, so writing MIE moves it one way and pushes once, and
without MIE a fire cannot raise it. -/
theorem masterEnableFlipsTheLine : Obligations.MasterEnableFlipsTheLine := by
  intro s i hc hline hi henabled hpending
  refine ⟨fun hmie => ⟨?_, fun lr t hfire => ?_⟩, fun hmie => ?_⟩
  · have hold : s.irqLevel = false := hline.trans (levelOf_of_mie_clear hmie _)
    have hnew : levelOf (s.hcInterrupt ||| 0x80000000#32) s.hcInterruptStatus = true :=
      (levelOf_iff _ _).mpr ⟨by simp, i, hi, by rw [BitVec.getLsbD_or, henabled, Bool.true_or], hpending⟩
    obtain ⟨-, hwrite, -⟩ := interruptRegisterWrites s 0x80000000#32 hc
    have hmask : 0x80000000#32 &&& 0xC000007F#32 = 0x80000000#32 := by decide
    rw [hmask, hnew, hold] at hwrite
    exact hwrite
  · obtain ⟨-, -, -, rfl⟩ := exec_fire_iff.mp hfire
    refine ⟨?_, ?_⟩
    · exact (updateInterrupt_irqLevel _).trans (levelOf_of_mie_clear hmie _)
    · rw [updateInterrupt_hcInterruptStatus]
      exact firedStatus_sf _ _
  · have hold : s.irqLevel = true := hline.trans ((levelOf_iff _ _).mpr ⟨hmie, i, hi, henabled, hpending⟩)
    have hnew : levelOf (s.hcInterrupt &&& 0x7FFFFFFF#32) s.hcInterruptStatus = false :=
      levelOf_of_mie_clear (by simp) _
    obtain ⟨-, -, hwrite⟩ := interruptRegisterWrites s 0x80000000#32 hc
    have hmask : ~~~(0x80000000#32 &&& 0xC000007F#32) = 0x7FFFFFFF#32 := by decide
    rw [hmask, hnew, hold] at hwrite
    exact hwrite

/-! ### The pushes of a step (R401) -/

/-- The outputs so far are a proper series of pushes from the level `level`, and end at the level recorded. -/
def LineTold (level : Bool) (s : State) : Prop := lineAfter level s.out = some s.irqLevel

theorem lineAfter_append (level : Bool) (l m : List Output) :
    lineAfter level (l ++ m) = (lineAfter level l).bind (lineAfter · m) := by
  induction l generalizing level with
  | nil => rfl
  | cons o rest ih => cases o <;> cases level <;> simp [lineAfter, ih]

/-- The push of a new level, or none, takes the line there. -/
theorem lineAfter_pushIfNew (line : Nat) (old new : Bool) : lineAfter old (pushIfNew line old new) = some new := by
  cases old <;> cases new <;> rfl

theorem clearOut_lineTold (s : State) : LineTold s.irqLevel s.clearOut := rfl

/-- What records the same level and hands out the same. -/
theorem LineTold.of_eq {level : Bool} {s t : State} (h : LineTold level s) (hlevel : t.irqLevel = s.irqLevel)
    (hout : t.out = s.out) : LineTold level t := by
  rw [LineTold, hlevel, hout]
  exact h

/-- What records the same level and hands out one thing more that is no push. -/
theorem LineTold.of_emit {level : Bool} {s t : State} {o : Output} (h : LineTold level s)
    (ho : ∀ b, lineAfter b [o] = some b) (hlevel : t.irqLevel = s.irqLevel) (hout : t.out = s.out ++ [o]) :
    LineTold level t := by
  rw [LineTold, hlevel, hout, lineAfter_append, h]
  exact ho _

theorem updateInterrupt_lineTold {level : Bool} {s : State} (h : LineTold level s) :
    LineTold level (updateInterrupt s) := by
  rw [updateInterrupt_eq_pushIfNew, LineTold, lineAfter_append, h]
  exact lineAfter_pushIfNew _ _ _

theorem modifyPort_lineTold {level : Bool} (p : PortNo) (f : Port → Port) {s : State} (h : LineTold level s) :
    LineTold level (modifyPort p f s) := h.of_eq (modifyPort_irqLevel p f s) (modifyPort_out p f s)

theorem setInterrupt_lineTold {level : Bool} (bits : Word) {s : State} (h : LineTold level s) :
    LineTold level (setInterrupt bits s) := updateInterrupt_lineTold h

theorem portOutcome_lineTold {level : Bool} (p : PortNo) (q : Port) (raised : Bool) {s : State} (h : LineTold level s) :
    LineTold level (portOutcome p q raised s) := whenSet_keeps (modifyPort_lineTold p _ h) (setInterrupt_lineTold _)

theorem portWrite_lineTold {level : Bool} (p : PortNo) (v : Word) {s : State} (h : LineTold level s) :
    LineTold level (portWrite p v s) := by
  rw [portWrite_eq]
  exact portOutcome_lineTold _ _ _ h

theorem attachPort_lineTold {level : Bool} (p : PortNo) (lowSpeed : Bool) {s : State} (h : LineTold level s) :
    LineTold level (attachPort p lowSpeed s) := by
  cases hccs : (s.port p).ccs
  · rw [attachPort_empty hccs]
    exact portOutcome_lineTold _ _ _ h
  · rw [attachPort_occupied hccs]
    exact h

theorem detachPort_lineTold {level : Bool} (p : PortNo) {s : State} (h : LineTold level s) :
    LineTold level (detachPort p s) := by
  cases hccs : (s.port p).ccs
  · rw [detachPort_empty hccs]
    exact h
  · rw [detachPort_occupied hccs]
    exact portOutcome_lineTold _ _ _ h

theorem portResetDone_lineTold {level : Bool} (p : PortNo) {s : State} (h : LineTold level s) :
    LineTold level (portResetDone p s) := by
  rw [portResetDone_eq]
  exact portOutcome_lineTold _ _ _ h

theorem resetProcedure_lineTold {level : Bool} {s : State} (h : LineTold level s) : LineTold level (resetProcedure s) :=
  h.of_emit (o := .disarm) (fun _ => rfl) rfl rfl

theorem leaveOperational_lineTold {level : Bool} {s : State} (h : LineTold level s) :
    LineTold level (leaveOperational s) := h.of_emit (o := .disarm) (fun _ => rfl) rfl rfl

theorem enterOperational_lineTold {level : Bool} {s : State} (h : LineTold level s) :
    LineTold level (enterOperational s) := h.of_emit (o := .arm s.usbFrameTime) (fun _ => rfl) rfl rfl

theorem changeState_lineTold {level : Bool} (old new : Hcfs) {s : State} (h : LineTold level s) :
    LineTold level (changeState old new s) := by
  have hleft : LineTold level (if old = .operational then leaveOperational s else s) := by
    split
    · exact leaveOperational_lineTold h
    · exact h
  obtain ⟨-, heq⟩ | ⟨-, -, heq⟩ | ⟨-, -, heq⟩ | ⟨-, -, heq⟩ := changeState_cases old new s
  all_goals rw [heq]
  · exact h
  · exact resetProcedure_lineTold hleft
  · exact enterOperational_lineTold h
  · exact hleft

theorem writeCommandStatus_lineTold {level : Bool} (v : Word) {s : State} (h : LineTold level s) :
    LineTold level (writeCommandStatus v s) := by
  unfold writeCommandStatus
  split
  · exact resetProcedure_lineTold h
  · exact h

theorem PowerKept.irqLevel_out {s t : State} (h : PowerKept s t) : t.irqLevel = s.irqLevel ∧ t.out = s.out :=
  ⟨(congrArg State.irqLevel h.rest :), (congrArg State.out h.rest :)⟩

theorem WriteRule.lineTold {i : Instr} {f : State → State} (hf : WriteRule i f) {level : Bool} {s : State}
    (h : LineTold level s) : LineTold level (f s) := by
  cases hf with
  | wrHcControl v => exact changeState_lineTold _ _ (h.of_eq (t := { s with hcControl := v &&& maskControl }) rfl rfl)
  | wrHcCommandStatus v => exact writeCommandStatus_lineTold v h
  | wrHcRhStatus v =>
    obtain ⟨hlevel, hout⟩ := (rhStatusCommands_powerKept (v &&& maskRhStatus) s).irqLevel_out
    exact h.of_eq hlevel hout
  | wrHcRhPortStatus1 v => exact portWrite_lineTold .one v h
  | wrHcRhPortStatus2 v => exact portWrite_lineTold .two v h
  | _ => exact h

/-- Before its line update a fire pushes nothing. -/
theorem firedState_lineTold (r : LR) (s : State) : LineTold s.irqLevel (firedState r s) := by
  change lineAfter s.irqLevel (firedOutputs r s) = some s.irqLevel
  cases hdone : r.done <;> cases hlists : s.listsEnabled <;> simp [firedOutputs, hdone, hlists, lineAfter]

theorem Taken.lineTold {i : Instr} {s t : State} (h : Taken s i t) (hc : s.constructed = true) :
    LineTold s.irqLevel t := by
  have hclear := clearOut_lineTold s
  cases h with
  | read | adv => rfl
  | write hf => exact updateInterrupt_lineTold (hf.lineTold hclear)
  | fire lr =>
    rw [frameFire_clearOut]
    exact updateInterrupt_lineTold (firedState_lineTold _ s)
  | attach lowSpeed => exact updateInterrupt_lineTold (attachPort_lineTold _ lowSpeed hclear)
  | detach => exact updateInterrupt_lineTold (detachPort_lineTold _ hclear)
  | prdone => exact updateInterrupt_lineTold (portResetDone_lineTold _ hclear)
  | construct hn => simp [hc] at hn

/-- Settles O25: only `UpdateInterrupt()` pushes, and each of its pushes is a change from the level recorded. -/
theorem pushesAreChangesOnly : Obligations.PushesAreChangesOnly := fun _ _ _ hc h => (exec_next_taken h).lineTold hc

/-! ### The line updates inside a step (R402)

Between two line updates of a step the status bits only gain, so the level only rises: an inner update can push one
Assert, which the final update would push otherwise, and never a Deassert. -/

/-- No Deassert is due: the level recorded is not above the level the state gives. -/
def NoneDue (s : State) : Prop := s.irqLevel = true → s.intLevel = true

theorem PortAct.runWithoutUpdate_noneDue {s : State} (h : NoneDue s) (a : PortAct) :
    NoneDue (PortAct.runWithoutUpdate s a) := by
  intro hlevel
  have hbefore : levelOf s.hcInterrupt s.hcInterruptStatus = true := by
    refine h ?_
    rw [← modifyPort_irqLevel a.port a.change s]
    exact hlevel
  have hafter := levelOf_or hbefore (a.bits &&& 0x4000007F#32)
  rw [← modifyPort_hcInterrupt a.port a.change s] at hafter
  exact hafter

theorem PortAct.runWithUpdate_eq (s : State) (a : PortAct) :
    PortAct.runWithUpdate s a = updateInterrupt (PortAct.runWithoutUpdate s a) := by
  rw [PortAct.runWithUpdate, setInterrupt_eq, modifyPort_hcInterruptStatus]
  rfl

/-- While the level rises, the pushes on the way add up to the push from end to end. -/
theorem pushIfNew_append {line : Nat} {old mid new : Bool} (hmid : old = true → mid = true)
    (hnew : mid = true → new = true) :
    pushIfNew line old mid ++ pushIfNew line mid new = pushIfNew line old new := by
  cases old <;> cases mid <;> cases new <;> simp_all [pushIfNew]

/-- A line update before an act may be dropped where the act is followed by one. -/
theorem PortAct.runWithUpdate_updateInterrupt {s : State} (h : NoneDue s) (a : PortAct) :
    PortAct.runWithUpdate (updateInterrupt s) a = updateInterrupt (PortAct.runWithoutUpdate s a) := by
  have hpush := pushIfNew_append (line := s.params.irqNum) h
    (fun hlevel => levelOf_or hlevel (a.bits &&& 0x4000007F#32))
  rw [PortAct.runWithUpdate_eq]
  simp only [updateInterrupt_eq_pushIfNew, PortAct.runWithoutUpdate]
  cases a.port
  all_goals
    simp only [modifyPort, List.append_assoc]
    rw [← hpush]
    rfl

theorem foldl_runWithUpdate {s : State} (h : NoneDue s) (acts : List PortAct) :
    acts.foldl PortAct.runWithUpdate (updateInterrupt s) = updateInterrupt (acts.foldl PortAct.runWithoutUpdate s) := by
  induction acts generalizing s with
  | nil => rfl
  | cons a rest ih =>
    rw [List.foldl_cons, List.foldl_cons, PortAct.runWithUpdate_updateInterrupt h,
      ih (PortAct.runWithoutUpdate_noneDue h a)]

/-- Settles O26: from a settled line no Deassert is due, and no act makes one due. -/
theorem innerLineUpdateMayBeDropped : Obligations.InnerLineUpdateMayBeDropped := by
  refine ⟨fun s acts hline => ?_, fun s p b => rfl⟩
  have hnone : NoneDue s := fun hlevel => hline.symm.trans hlevel
  have hfold := foldl_runWithUpdate hnone acts
  rw [updateInterrupt_settled hline] at hfold
  rw [hfold, updateInterrupt_idem]

/-! ### The enables (R404) -/

theorem PortFrame.hcInterrupt {s t : State} (h : PortFrame s t) : t.hcInterrupt = s.hcInterrupt := by
  unfold PortFrame at h
  exact (congrArg State.hcInterrupt h :)

theorem PowerKept.hcInterrupt {s t : State} (h : PowerKept s t) : t.hcInterrupt = s.hcInterrupt :=
  (congrArg State.hcInterrupt h.rest :)

theorem ControlFrame.hcInterrupt {s t : State} (h : ControlFrame s t) : t.hcInterrupt = s.hcInterrupt := by
  unfold ControlFrame at h
  exact (congrArg State.hcInterrupt h :)

/-- What a transaction does to the enables. -/
inductive EnableChange (i : Instr) (s t : State) : Prop
  | enabled (v : Word) (hi : i = .wrHcInterruptEnable v)
  | disabled (v : Word) (hi : i = .wrHcInterruptDisable v)
  | zeroed (hreset : resets i s = true) (h : t.hcInterrupt = 0#32)
  | kept (h : t.hcInterrupt = s.hcInterrupt)

/-- Neither the fresh output list nor the final line update changes an enable. -/
theorem EnableChange.of_clearOut {i : Instr} {s t : State} (h : EnableChange i s.clearOut t) :
    EnableChange i s (updateInterrupt t) := by
  have hline := updateInterrupt_hcInterrupt t
  cases h with
  | enabled v hi => exact .enabled v hi
  | disabled v hi => exact .disabled v hi
  | zeroed hreset h => exact .zeroed (resets_clearOut i s ▸ hreset) (hline.trans h)
  | kept h => exact .kept (hline.trans h)

theorem WriteRule.enableChange {i : Instr} {f : State → State} (hf : WriteRule i f) (s : State) :
    EnableChange i s (f s) := by
  cases hf with
  | wrHcInterruptEnable v => exact .enabled v rfl
  | wrHcInterruptDisable v => exact .disabled v rfl
  | wrHcControl v =>
    obtain ⟨hreset, u, -, heq⟩ | ⟨-, hframe⟩ := writeControl_cases v s
    · exact .zeroed hreset (by rw [heq]; rfl)
    · exact .kept hframe.hcInterrupt
  | wrHcCommandStatus v =>
    obtain ⟨hreset, heq⟩ | ⟨-, heq⟩ := writeCommandStatus_cases v s
    · exact .zeroed hreset (by rw [heq]; rfl)
    · exact .kept (by rw [heq])
  | wrHcRhStatus v => exact .kept (rhStatusCommands_powerKept _ s).hcInterrupt
  | wrHcRhPortStatus1 v => exact .kept (portWrite_portFrame .one v s).hcInterrupt
  | wrHcRhPortStatus2 v => exact .kept (portWrite_portFrame .two v s).hcInterrupt
  | _ => exact .kept rfl

theorem Taken.enableChange {i : Instr} {s t : State} (h : Taken s i t) (hc : s.constructed = true) :
    EnableChange i s t := by
  cases h with
  | read | adv => exact .kept rfl
  | write hf => exact (hf.enableChange s.clearOut).of_clearOut
  | fire lr =>
    rw [frameFire_clearOut]
    exact .kept (updateInterrupt_hcInterrupt _)
  | attach lowSpeed => exact .of_clearOut (.kept (attachPort_portFrame _ lowSpeed _).hcInterrupt)
  | detach => exact .of_clearOut (.kept (detachPort_portFrame _ _).hcInterrupt)
  | prdone => exact .of_clearOut (.kept (portResetDone_portFrame _ _).hcInterrupt)
  | construct hn => simp [hc] at hn

/-- Settles O28: each case of `EnableChange` but the last is one of the three of the statement. -/
theorem enablesChangeOnlyAtTheirPorts : Obligations.EnablesChangeOnlyAtTheirPorts := by
  intro i s t hc h hne
  cases (exec_next_taken h).enableChange hc with
  | enabled v hi => exact .inl ⟨v, hi⟩
  | disabled v hi => exact .inr (.inl ⟨v, hi⟩)
  | zeroed hreset hzero => exact .inr (.inr ⟨hreset, hzero⟩)
  | kept hkept => exact absurd hkept hne

/-! ### Where a frame can fire (R422) -/

/-- Settles O42: the timer is armed only while Operational (R77), and a fire keeps HcControl. -/
theorem framesOnlyWhileOperational : Obligations.FramesOnlyWhileOperational := by
  intro s t lr hinv h
  obtain ⟨hblock, -⟩ := inv_iff.mp hinv
  obtain ⟨hoperational, -, -⟩ := hblock.timer
  obtain ⟨-, harmed, -, rfl⟩ := exec_fire_iff.mp h
  have hop : s.hcfs = .operational := hoperational.mp harmed
  exact ⟨hop, (hcfs_eq_of_hcControl (updateInterrupt_hcControl _)).trans hop⟩

end Sys2Proof.Machine

/-! PROOFS of the family 70_reset_and_hazards.md: construction, and the idempotent reset. -/

namespace Sys2Proof.Machine

open Sys2Proof

/-! ### Construction -/

/-- Every transaction but CONSTRUCT is taken only once the block is constructed (R440). -/
theorem Taken.construct_of_unconstructed {i : Instr} {s t : State} (h : Taken s i t) (hn : s.constructed = false) :
    i = .construct := by
  cases h with
  | construct => rfl
  | read _ _ hc | write _ hc | fire _ hc | attach _ _ hc | detach _ hc | prdone _ hc | adv _ hc => simp [hn] at hc

/-- `Construct()` in the words of R81: the values of the Reset procedure, with no device attached and the hidden times
0. -/
theorem construct_eq_resetValues (s : State) :
    construct s = { s.resetValues with
      constructed := true
      port1 := { pps := s.params.nps }
      port2 := { pps := s.params.nps }
      timerDeadline := 0
      sofTime := 0
      out := [] } := rfl

theorem exec_construct_of_unconstructed {s : State} (hn : s.constructed = false) :
    exec .construct s = .next (construct s) := if_neg (ne_true_of_eq_false hn)

/-- Settles O56: CONSTRUCT is taken only before construction, and every other transaction only after it. -/
theorem constructResult : Obligations.ConstructResult := by
  intro s
  refine ⟨fun hc => if_pos hc, fun hn => ?_, fun hn i t h => (exec_next_taken h).construct_of_unconstructed hn⟩
  rw [exec_construct_of_unconstructed hn, construct_eq_resetValues]

/-! ### The idempotent reset (R443) -/

/-- After a reset the line is low and every enable is clear. -/
theorem resetValues_lineSettled (s : State) (l : List Output) : ({ s.resetValues with out := l } : State).lineSettled :=
  show false = levelOf 0#32 0#32 by decide

/-- From the values of R81 a write of 0 to HcControl keeps HCFS, and stores the 0 that HcControl holds. -/
theorem wrHcControl_zero_resetValues {s : State} (hc : s.constructed = true) (l : List Output) :
    exec (.wrHcControl 0#32) { s.resetValues with out := l } = .next { s.resetValues with out := [] } :=
  controlWriteStoresOnly { s.resetValues with out := l } 0#32 hc (resetValues_lineSettled s l) (.inl rfl)

/-- From the values of R81 HCR finds every value as it would leave it, and the line low. -/
theorem hcr_resetValues {s : State} (hc : s.constructed = true) (l : List Output) :
    exec (.wrHcCommandStatus 1#32) { s.resetValues with out := l } = .next { s.resetValues with out := [.disarm] } :=
  hcrGivesResetValues { s.resetValues with out := l } 1#32 hc rfl

/-- Settles O36: the transition leaves the values of R81, which construction leaves too but for the device and the hidden
times. -/
theorem resetIsIdempotent : Obligations.ResetIsIdempotent := by
  intro s b c v hc hop hv hb hconstruct
  have hstate : s.hcControl.extractLsb' 6 2 ≠ 0#2 := by
    rw [(hcfsOf_eq_operational_iff _).mp hop]
    decide
  obtain rfl := Host.Outcome.next.inj ((controlWriteIntoReset s v hc hstate hv).symm.trans hb)
  obtain ⟨-, rfl⟩ := execConstruct_next hconstruct
  refine ⟨?_, wrHcControl_zero_resetValues hc _, hcr_resetValues hc _⟩
  rw [construct_eq_resetValues, ← hc]
  rfl

end Sys2Proof.Machine
